-- ==== Sys2Proof/Word.lean ====
section
/-! DEFINITION. The words of the block: an operation word is 8 bits (30_encoding.md R60), a one-bit
field is a `Bit` with `true` for 1 (R67), a segment mask is 7 bits (R66). -/

namespace Sys2Proof

/-- An operation word (30_encoding.md R60). -/
abbrev OpWord := BitVec 8

/-- A one-bit field or level: `true` is 1, asserted, high (30_encoding.md R67). -/
abbrev Bit := Bool

/-- A segment mask: bit 0 is segment a, up to bit 6, segment g (30_encoding.md R66). -/
abbrev SegMask := BitVec 7

end Sys2Proof
end

