-- ==== Sys2Proof/Config.lean ====
section
/-! DEFINITION. The configuration parameters of 00_scope.md section 4, the reference configuration,
and the two free values of the model: the environment's choice of the next operation
(20_memory.md R55) and the quotient of a division by zero, which no rule states. -/

namespace Sys2Proof

/-- SEG_TABLE: the ten masks of the decoder, one for each digit (45_display_decoder.md R161). -/
structure SegTable where
  d0 : SegMask
  d1 : SegMask
  d2 : SegMask
  d3 : SegMask
  d4 : SegMask
  d5 : SegMask
  d6 : SegMask
  d7 : SegMask
  d8 : SegMask
  d9 : SegMask
  deriving DecidableEq, Repr

/-- The parameters of 00_scope.md section 4, each under its own name; widths are in bits.
LEVEL_INIT is not among them: it is STEP_LEVELS / 2 (`Config.levelInit`). -/
structure Config where
  /-- TPM: hardware timer overflows per logical millisecond. -/
  tpm : Nat
  /-- STEP_LEVELS: number of level steps. -/
  stepLevels : Nat
  /-- FRS: full-revolution step count. -/
  frs : Nat
  /-- ACTIVE_MS: normal active-phase duration. -/
  activeMs : Nat
  /-- PAUSE_MS: normal pause-phase duration. -/
  pauseMs : Nat
  /-- TEST_MS: the duration of both phases while test mode is on. OPEN in the spec. -/
  testMs : Nat
  /-- DEBOUNCE_MS: debounce window in ms ticks. -/
  debounceMs : Nat
  /-- DISPLAY_MS: display period in ms ticks. -/
  displayMs : Nat
  /-- DISP_PERIODS: display periods before blanking. -/
  dispPeriods : Nat
  /-- LAST_STEP_REARM: the alarm that takes StepsRemaining to 0 also raises the alarm again. -/
  lastStepRearm : Bool
  /-- SEG_TABLE. -/
  segTable : SegTable
  /-- SEG_ACTIVE_LOW: segment output polarity. -/
  segActiveLow : Bool
  /-- CYC_W. -/
  cycW : Nat
  /-- PRE_W. -/
  preW : Nat
  /-- DISP_W. -/
  dispW : Nat
  /-- DSEC_W. -/
  dsecW : Nat
  /-- DEB_W. -/
  debW : Nat
  /-- STEPS_W. -/
  stepsW : Nat
  /-- SI_W. -/
  siW : Nat
  /-- LEVEL_W. -/
  levelW : Nat
  deriving DecidableEq, Repr

namespace Config

/-- LEVEL_INIT = STEP_LEVELS / 2: the level after reset (00_scope.md section 4; 10_state.md R41). -/
def levelInit (c : Config) : Nat := c.stepLevels / 2

/-- The default SEG_TABLE of 45_display_decoder.md R161. DESIGN CHOICE (log 8): the spec marks the
values as general knowledge, so no statement rests on them. -/
def defaultSegTable : SegTable where
  d0 := 0x3F#7
  d1 := 0x06#7
  d2 := 0x5B#7
  d3 := 0x4F#7
  d4 := 0x66#7
  d5 := 0x6D#7
  d6 := 0x7D#7
  d7 := 0x07#7
  d8 := 0x7F#7
  d9 := 0x6F#7

/-- The reference configuration of 00_scope.md section 4, with the TEST_MS of 95_test_vectors.md.
DESIGN CHOICE (log 8): TEST_MS is OPEN in the spec. -/
def reference : Config where
  tpm := 8
  stepLevels := 8
  frs := 1600
  activeMs := 900000
  pauseMs := 900000
  testMs := 8000
  debounceMs := 200
  displayMs := 5000
  dispPeriods := 8
  lastStepRearm := true
  segTable := defaultSegTable
  segActiveLow := false
  cycW := 32
  preW := 3
  dispW := 16
  dsecW := 4
  debW := 16
  stepsW := 16
  siW := 32
  levelW := 4

end Config

/-- The operations the environment may deliver at any boundary: the three interrupts
(60_exceptions.md R202) and RESET (70_reset_and_hazards.md R220). -/
inductive EnvOp where
  | ovf
  | edgeUp
  | edgeDown
  | reset
  deriving DecidableEq, Repr, Inhabited

/-- One choice of the environment (20_memory.md R55): whether the CTRL agent steps if it can, the
level of `test_n_i` should that step poll it (41_input_capture.md R113), and the operation delivered
when CTRL does not step. -/
structure EnvChoice where
  ctrlSteps : Bool
  level : Bit
  envOp : EnvOp
  deriving DecidableEq, Repr, Inhabited

/-- FREE VALUE (log 2): the environment's n-th choice of the next operation. 20_memory.md R55: "Which
operation comes next is free." -/
opaque Config.freeChoice : Nat → EnvChoice

/-- FREE VALUE (log 9): the quotient of a division by zero, as a function of the dividend. No rule
states one. -/
opaque Config.divByZero : Nat → Nat

end Sys2Proof
end

