-- ==== Sys2Proof/Syntax.lean ====
section
/-! DEFINITION. The operations of the block: one constructor for each row of spec/opcode_table.json
(30_encoding.md R64), and the reasons for which a word names none of them (R70, R71). -/

namespace Sys2Proof

/-- The eleven operations (30_encoding.md R64). The only operand is the sampled level `t` of
POLL_TEST (R76). -/
inductive Instr where
  /-- OVF: one hardware timer overflow (40_tick_source.md R100). -/
  | ovf
  /-- EDGE_UP: a falling edge on the level-up button (41_input_capture.md R110). -/
  | edgeUp
  /-- EDGE_DOWN: a falling edge on the level-down button (41_input_capture.md R111). -/
  | edgeDown
  /-- SVC_ALARM: consume the alarm (44_cycle_fsm.md R140). -/
  | svcAlarm
  /-- SVC_UP: level-up service (44_cycle_fsm.md R145). -/
  | svcUp
  /-- SVC_DOWN: level-down service (44_cycle_fsm.md R146). -/
  | svcDown
  /-- POLL_TEST: sample the test button at level `t` (41_input_capture.md R113). -/
  | pollTest (t : Bit)
  /-- SVC_TEST: test-mode toggle service (44_cycle_fsm.md R147). -/
  | svcTest
  /-- RENDER: drive the seven segments (45_display_decoder.md R162). -/
  | render
  /-- IDLE: wait, or start the next iteration (46_main_loop.md R172). -/
  | idle
  /-- RESET (70_reset_and_hazards.md R220). -/
  | reset
  deriving DecidableEq, Repr

/-- Who issues an operation (30_encoding.md R64, column "agent"). -/
inductive Agent where
  | irq
  | ctrl
  | environment
  deriving DecidableEq, Repr

/-- Why a word names no operation. -/
inductive Reject where
  /-- The `op` field is 0x0 or 0xB to 0xE (30_encoding.md R70). -/
  | reservedOpcode
  /-- `res` is not 0, or `T` is 1 outside POLL_TEST (30_encoding.md R71). -/
  | reservedBits
  deriving DecidableEq, Repr

end Sys2Proof
end

