-- ==== Sys2Proof/WellFormed.lean ====
section
/-! DEFINITION. Well-formedness: which configurations the model admits (00_scope.md R2) and which
operation words name an operation (30_encoding.md R70, R71, R73). A term of `Instr` needs no check: its
one operand is one bit, used unchanged (R76), so every term is well-formed. -/

namespace Sys2Proof

/-- 00_scope.md R2: the configurations the model admits. -/
def Config.admitted (c : Config) : Bool := decide <|
  1 ≤ c.tpm ∧
  1 ≤ c.stepLevels ∧ c.stepLevels ≤ 9 ∧
  c.stepLevels ≤ c.frs ∧
  1 ≤ c.activeMs ∧
  1 ≤ c.pauseMs ∧
  1 ≤ c.testMs ∧
  1 ≤ c.debounceMs ∧
  1 ≤ c.displayMs ∧
  1 ≤ c.dispPeriods ∧
  c.tpm * max c.activeMs (max c.pauseMs c.testMs) < 2 ^ c.cycW ∧
  c.frs < 2 ^ c.stepsW ∧
  c.stepLevels * c.frs < 2 ^ 32 ∧
  c.debounceMs < 2 ^ c.debW ∧
  c.displayMs < 2 ^ c.dispW ∧
  c.dispPeriods < 2 ^ c.dsecW ∧
  c.tpm ≤ 2 ^ c.preW ∧
  c.stepLevels < 2 ^ c.levelW

/-- The fields of an operation word (30_encoding.md R60), as numbers. -/
structure WordFields where
  /-- `w[3:0]`. -/
  op : Nat
  /-- `w[4]`. -/
  t : Bit
  /-- `w[7:5]`. -/
  res : Nat
  deriving DecidableEq, Repr

/-- The `op` field names an operation (30_encoding.md R64, R70). -/
def WordFields.opAssigned (f : WordFields) : Bool :=
  (1 ≤ f.op && f.op ≤ 10) || f.op == 15

/-- The reserved field is 0 (30_encoding.md R71). -/
def WordFields.resClear (f : WordFields) : Bool := f.res == 0

/-- `T` is 0 in every operation other than POLL_TEST (30_encoding.md R60, R71). -/
def WordFields.tAllowed (f : WordFields) : Bool := !f.t || f.op == 7

/-- A word with these fields names one of the eleven operations (30_encoding.md R73). -/
def WordFields.wellFormed (f : WordFields) : Bool :=
  f.opAssigned && f.resClear && f.tAllowed

end Sys2Proof
end

