-- ==== Sys2Proof/Decode.lean ====
section
/-! DEFINITION. Decoding and encoding of operation words (30_encoding.md R60, R64, R70, R71), of
lists of words, and the pseudo-operation ITER (R75). -/

namespace Sys2Proof

/-- The fields of a word (30_encoding.md R60): `op = w[3:0]`, `T = w[4]`, `res = w[7:5]`. -/
def wordFields (w : OpWord) : WordFields where
  op := (w.extractLsb' 0 4).toNat
  t := w.getLsbD 4
  res := (w.extractLsb' 5 3).toNat

/-- A word of an operation without operand: `T` and `res` must be 0 (30_encoding.md R71). -/
def plainWord (f : WordFields) (i : Instr) : Except Reject Instr :=
  if f.resClear && !f.t then .ok i else .error .reservedBits

/-- The opcode map (30_encoding.md R64), total on all 256 words. A reserved opcode is reported before
reserved bits (log 6). -/
def decode (w : OpWord) : Except Reject Instr :=
  let f := wordFields w
  match f.op with
  | 1 => plainWord f .ovf
  | 2 => plainWord f .edgeUp
  | 3 => plainWord f .edgeDown
  | 4 => plainWord f .svcAlarm
  | 5 => plainWord f .svcUp
  | 6 => plainWord f .svcDown
  | 7 => if f.resClear then .ok (.pollTest f.t) else .error .reservedBits
  | 8 => plainWord f .svcTest
  | 9 => plainWord f .render
  | 10 => plainWord f .idle
  | 15 => plainWord f .reset
  | _ => .error .reservedOpcode

/-- Assemble a word from `op` and `T`, with `res = 0` (30_encoding.md R60). -/
def assemble (op : BitVec 4) (t : Bit) : OpWord :=
  (0#3 ++ BitVec.ofBool t ++ op : BitVec 8)

/-- The word of an operation (30_encoding.md R64, "Exact patterns"). -/
def encode : Instr → OpWord
  | .ovf => assemble 0x1#4 false
  | .edgeUp => assemble 0x2#4 false
  | .edgeDown => assemble 0x3#4 false
  | .svcAlarm => assemble 0x4#4 false
  | .svcUp => assemble 0x5#4 false
  | .svcDown => assemble 0x6#4 false
  | .pollTest t => assemble 0x7#4 t
  | .svcTest => assemble 0x8#4 false
  | .render => assemble 0x9#4 false
  | .idle => assemble 0xA#4 false
  | .reset => assemble 0xF#4 false

/-- Decode the first operation of a stream of words, and give the rest. All words have one length
(30_encoding.md R60); an empty stream holds none. -/
def decodeNext : List OpWord → Option (Except Reject Instr × List OpWord)
  | [] => none
  | w :: rest => some (decode w, rest)

/-- Decode a whole stream (30_encoding.md R60): the first word that names no operation is reported. -/
def decodeStream : List OpWord → Except Reject (List Instr)
  | [] => .ok []
  | w :: rest =>
    match decode w with
    | .error e => .error e
    | .ok i =>
      match decodeStream rest with
      | .error e => .error e
      | .ok is => .ok (i :: is)

/-- The words of a list of operations. -/
def encodeStream (is : List Instr) : List OpWord := is.map encode

/-- The pseudo-operation ITER(T): one whole main-loop iteration (30_encoding.md R75). -/
def iter (t : Bit) : List Instr :=
  [.svcAlarm, .svcUp, .svcDown, .pollTest t, .svcTest, .render, .idle]

/-- The seven words of ITER(T) (30_encoding.md R75). -/
def iterWords (t : Bit) : List OpWord := encodeStream (iter t)

/-- The agent that issues an operation (30_encoding.md R64). -/
def Instr.agent : Instr → Agent
  | .ovf => .irq
  | .edgeUp => .irq
  | .edgeDown => .irq
  | .svcAlarm => .ctrl
  | .svcUp => .ctrl
  | .svcDown => .ctrl
  | .pollTest _ => .ctrl
  | .svcTest => .ctrl
  | .render => .ctrl
  | .idle => .ctrl
  | .reset => .environment

/-- What the decoder reads from an instruction whose bits are `w`, numbered as spec/opcode_table.json
numbers them. Every word is 8 bits long, so a number with a bit above them is no word. -/
def decodeTableWord (_nbits w : Nat) : Option Instr :=
  if w < 2 ^ 8 then
    match decode (BitVec.ofNat 8 w) with
    | .ok i => some i
    | .error _ => none
  else none

end Sys2Proof
end

