-- ==== Sys2Proof/Machine/Timing.lean ====
section
/-! DEFINITION. Register arithmetic (00_scope.md section 5, R5) and the timing functions of the
cycle (44_cycle_fsm.md R150, R151, R155), as functions of the configuration. -/

namespace Sys2Proof.Machine

/-- The value a register of `w` bits holds when `n` is written to it (00_scope.md section 5; log 11). -/
def wrap (w n : Nat) : Nat := n % 2 ^ w

/-- A counter increment, modulo 2^w of its register's width (00_scope.md R5). -/
def incr (w n : Nat) : Nat := wrap w (n + 1)

/-- Unsigned division rounded toward zero (00_scope.md section 5). Where the divisor is 0, no rule
states a quotient: a free value (log 9). -/
def divide (a b : Nat) : Nat := if b = 0 then Config.divByZero a else a / b

/-- `SPC(l) = (l * FRS) / STEP_LEVELS`, the product first (44_cycle_fsm.md R150). -/
def stepsPerCycle (c : Config) (l : Nat) : Nat := divide (l * c.frs) c.stepLevels

/-- `ActiveDur(t)` (44_cycle_fsm.md R155). -/
def activeDur (c : Config) (t : Bit) : Nat := if t then c.testMs else c.activeMs

/-- `PauseDur(t)` (44_cycle_fsm.md R155). -/
def pauseDur (c : Config) (t : Bit) : Nat := if t then c.testMs else c.pauseMs

/-- `StepIntervalFor(t, l) = ActiveDur(t) / SPC(l)` (44_cycle_fsm.md R151). -/
def stepIntervalFor (c : Config) (t : Bit) (l : Nat) : Nat :=
  divide (activeDur c t) (stepsPerCycle c l)

end Sys2Proof.Machine
end

