-- ==== Sys2Proof/Machine/State.lean ====
section
/-! DEFINITION. The state of the machine: the registers of 10_state.md R21 to R44 and R46 to R49, the
observation fields of R45, and the model's own fields (INVENTORY.md, State). Registers of more than one
bit are unsigned values; their widths are parameters of `cfg`, and every write is taken modulo
2^width (`wrap`). -/

namespace Sys2Proof.Machine

/-- The source's CyclePhase (10_state.md R37): 0 = Active, 1 = Pause. -/
inductive Phase where
  | active
  | pause
  deriving DecidableEq, Repr

/-- The sequencer state `ctrl_pc` (10_state.md R49), in the order of 30_encoding.md R65. -/
inductive CtrlPc where
  | sAlarm
  | sUp
  | sDown
  | sPoll
  | sTsvc
  | sRender
  | sIdle
  | sWait
  deriving DecidableEq, Repr

/-- An output event of the observation log (10_state.md R45). -/
inductive OutEvent where
  /-- `emit(STEP)`: the step line went high, then low. -/
  | step
  deriving DecidableEq, Repr

/-- The fault reasons of 60_exceptions.md R201. -/
inductive Fault where
  /-- RENDER met a digit the decoder rejects (45_display_decoder.md R163). Raised by `execRender`, as a
  next state that records it (log 4). Safe: the state goes on as the spec says and is marked. -/
  | renderReject
  deriving DecidableEq, Repr

/-- The refusal reasons of 60_exceptions.md R201. -/
inductive Refusal where
  /-- An instruction without a meaning in this model. Raised by nobody: every arm has its meaning. Safe. -/
  | notModelled (mnemonic : String)
  /-- 30_encoding.md R70. Recorded by `step` in a next state (log 4). Safe. -/
  | reservedOpcode
  /-- 30_encoding.md R71. Recorded by `step` in a next state (log 4). Safe. -/
  | reservedBits
  /-- 30_encoding.md R72 and 70_reset_and_hazards.md R222. Recorded by the CTRL meanings and by `step`
  in a next state (log 4). Safe. -/
  | outOfSequence
  /-- 00_scope.md R2. Recorded by `step` in a next state, before any operation is taken, for a configuration
  that is not admitted (log 10). Safe. -/
  | badConfig
  deriving DecidableEq, Repr

/-- The outcome 00_scope.md R7 gives to a step, kept in the state it leaves (log 4). -/
inductive Report where
  | done
  | refuse (r : Refusal)
  | fault (f : Fault)
  deriving DecidableEq, Repr

/-- The machine. -/
structure State where
  /-- The configuration constants (00_scope.md section 4). No operation writes them. -/
  cfg : Config
  /-- `pre_cnt` (R21). -/
  preCnt : Nat
  /-- `cyc_cnt` (R22). -/
  cycCnt : Nat
  /-- `alarm` (R23). -/
  alarm : Bit
  /-- `disp_on` (R24). -/
  dispOn : Bit
  /-- `disp_cnt` (R25). -/
  dispCnt : Nat
  /-- `disp_sec` (R26). -/
  dispSec : Nat
  /-- `up_evt` (R27). -/
  upEvt : Bit
  /-- `down_evt` (R28). -/
  downEvt : Bit
  /-- `test_evt` (R29). -/
  testEvt : Bit
  /-- `up_armed` (R30). -/
  upArmed : Bit
  /-- `down_armed` (R31). -/
  downArmed : Bit
  /-- `test_armed` (R32). -/
  testArmed : Bit
  /-- `deb_up` (R33). -/
  debUp : Nat
  /-- `deb_down` (R34). -/
  debDown : Nat
  /-- `deb_test` (R35). -/
  debTest : Nat
  /-- `test_prev` (R36). -/
  testPrev : Bit
  /-- `phase` (R37). -/
  phase : Phase
  /-- `steps_rem` (R38). -/
  stepsRem : Nat
  /-- `spc` (R39). -/
  spc : Nat
  /-- `step_iv` (R40). -/
  stepIv : Nat
  /-- `level` (R41). -/
  level : Nat
  /-- `test_mode` (R42). -/
  testMode : Bit
  /-- `crp` (R43). -/
  crp : Bit
  /-- `dir_q` (R44). -/
  dirQ : Bit
  /-- `busy_q` (R46). -/
  busyQ : Bit
  /-- `seg_q` (R47). -/
  segQ : SegMask
  /-- `render_err` (R48). -/
  renderErr : Bit
  /-- `ctrl_pc` (R49). -/
  ctrlPc : CtrlPc
  /-- `out_log`, oldest first (R45). -/
  outLog : List OutEvent
  /-- `refused` (R45). -/
  refused : Bit
  /-- RESET has been applied since power-up (70_reset_and_hazards.md R222; log 5). -/
  started : Bool
  /-- The outcome of the last step (00_scope.md R7; log 4). -/
  report : Report
  /-- The operation words still to run, oldest first (20_memory.md R54; log 1). -/
  stream : List OpWord
  /-- How many free choices have been drawn (log 2). -/
  draws : Nat
  deriving DecidableEq, Repr

/-- The reset state under a configuration: 70_reset_and_hazards.md R221, with the observation fields as
at power-up (10_state.md R45, 70_reset_and_hazards.md R222). -/
def State.resetOf (c : Config) : State where
  cfg := c
  preCnt := 0
  cycCnt := 0
  alarm := false
  dispOn := true
  dispCnt := 0
  dispSec := 0
  upEvt := false
  downEvt := false
  testEvt := false
  upArmed := true
  downArmed := true
  testArmed := true
  debUp := 0
  debDown := 0
  debTest := 0
  testPrev := true
  phase := .active
  stepsRem := wrap c.stepsW (c.frs / 2)
  spc := wrap c.stepsW (stepsPerCycle c c.levelInit)
  stepIv := wrap c.siW (stepIntervalFor c false c.levelInit)
  level := wrap c.levelW c.levelInit
  testMode := false
  crp := false
  dirQ := false
  busyQ := true
  segQ := 0#7
  renderErr := false
  ctrlPc := .sAlarm
  outLog := []
  refused := false
  started := true
  report := .done
  stream := []
  draws := 0

/-- The machine right after reset, in the reference configuration (70_reset_and_hazards.md R221). -/
def State.reset : State := State.resetOf Config.reference

/-- Power-up, before the RESET that must come first (70_reset_and_hazards.md R222): no register is read
before that RESET writes it (log 5). -/
def State.powerUp (c : Config) : State := { State.resetOf c with started := false }

end Sys2Proof.Machine
end

