-- ==== Sys2Proof/Machine/Ops.lean ====
section
/-! DEFINITION. The named operations over the state that the meanings share. The block has no memory
(20_memory.md R50) and takes no exception (60_exceptions.md R200); what it has is the interrupt
discipline (R204, R205), the sequencer gate (30_encoding.md R72), the recorded outcomes (00_scope.md
R7), the output log (10_state.md R45) and the display restart (43_display_timeout.md R132). -/

namespace Sys2Proof.Machine

/-- `ctrl_pc <- p`. -/
def goto (p : CtrlPc) (s : State) : State := { s with ctrlPc := p }

/-- `refuse(r)`: the sticky flag `refused` is set and the state is otherwise unchanged (00_scope.md
R7, 30_encoding.md R70); the reason is kept in `report` (log 4). -/
def refuse (r : Refusal) (s : State) : State := { s with refused := true, report := .refuse r }

/-- `emit(STEP)`: append one entry to the observation log (10_state.md R45). -/
def emitStep (s : State) : State := { s with outLog := s.outLog ++ [.step] }

/-- `DisplayRestart()` (43_display_timeout.md R132). -/
def displayRestart (s : State) : State := { s with dispOn := true, dispCnt := 0, dispSec := 0 }

/-- The wake: `if ctrl_pc == S_WAIT: ctrl_pc <- S_ALARM` (46_main_loop.md R174). -/
def wake (s : State) : State := if s.ctrlPc = .sWait then { s with ctrlPc := .sAlarm } else s

/-- Take an interrupt, run its handler and return from it, as one atomic operation. Entry saves
nothing and changes no mode (60_exceptions.md R204), return restores nothing (R205), and the operation
ends with the wake (46_main_loop.md R174). -/
def takeIrq (handler : State → State) (s : State) : Host.Outcome State Fault Refusal :=
  .next (wake (handler s))

/-- Run a CTRL micro-operation at its place in the sequence; elsewhere it is refused (30_encoding.md
R72, 46_main_loop.md R171). -/
def inSequence (home : CtrlPc) (body : State → State) (s : State) : Host.Outcome State Fault Refusal :=
  if s.ctrlPc = home then .next (body s) else .next (refuse .outOfSequence s)

/-- The sequencer state at which a CTRL micro-operation runs (46_main_loop.md R170); the other
operations have none. -/
def homePc : Instr → Option CtrlPc
  | .svcAlarm => some .sAlarm
  | .svcUp => some .sUp
  | .svcDown => some .sDown
  | .pollTest _ => some .sPoll
  | .svcTest => some .sTsvc
  | .render => some .sRender
  | .idle => some .sIdle
  | .ovf => none
  | .edgeUp => none
  | .edgeDown => none
  | .reset => none

/-- The one enabled step of the CTRL agent (46_main_loop.md R171), with the test button read as `t`. -/
def microOp (p : CtrlPc) (t : Bit) : Option Instr :=
  match p with
  | .sAlarm => some .svcAlarm
  | .sUp => some .svcUp
  | .sDown => some .svcDown
  | .sPoll => some (.pollTest t)
  | .sTsvc => some .svcTest
  | .sRender => some .render
  | .sIdle => some .idle
  | .sWait => none

/-- The encoding of `ctrl_pc` (30_encoding.md R65). -/
def ctrlPcCode : CtrlPc → BitVec 3
  | .sAlarm => 0#3
  | .sUp => 1#3
  | .sDown => 2#3
  | .sPoll => 3#3
  | .sTsvc => 4#3
  | .sRender => 5#3
  | .sIdle => 6#3
  | .sWait => 7#3

/-- The encoding of `phase` (30_encoding.md R67): 0 = Active, 1 = Pause. -/
def phaseCode : Phase → Bit
  | .active => false
  | .pause => true

end Sys2Proof.Machine
end

