-- ==== Sys2Proof/Machine/Operands.lean ====
section
/-! DEFINITION. The numbers an operation works with. There is no immediate, register number or
address (30_encoding.md R76): they come from the state and the configuration. -/

namespace Sys2Proof.Machine

/-- The duration the running phase counts against, in ms (42_cycle_timer.md R120): the StepInterval
while Active, the pause duration while Pause. -/
def phaseInterval (s : State) : Nat :=
  match s.phase with
  | .active => s.stepIv
  | .pause => pauseDur s.cfg s.testMode

/-- The cycle threshold in OVFs, computed in CYC_W bits (42_cycle_timer.md R120). -/
def cycleThreshold (s : State) : Nat := wrap s.cfg.cycW (s.cfg.tpm * phaseInterval s)

/-- The poll sees a press: a high-to-low change while the button is armed (41_input_capture.md R113). -/
def testPressed (s : State) (t : Bit) : Bit := s.testPrev && !t && s.testArmed

end Sys2Proof.Machine
end

