-- ==== Sys2Proof/Machine/Flags.lean ====
section
/-! DEFINITION. The status flags (10_state.md section 8): the pending check of IDLE and the arm, disarm
and timed re-arm discipline the three buttons share. -/

namespace Sys2Proof.Machine

/-- Some alarm or button event is pending (46_main_loop.md R172). -/
def anyPending (s : State) : Bit := s.alarm || s.upEvt || s.downEvt || s.testEvt

/-- `DebounceStep`: the armed flag and the re-arm counter of one button after one ms tick
(41_input_capture.md R115). -/
def debounceNext (c : Config) (armed : Bit) (deb : Nat) : Bit × Nat :=
  if armed then (armed, deb)
  else
    let k := incr c.debW deb
    if k = c.debounceMs then (true, 0) else (armed, k)

end Sys2Proof.Machine
end

