-- ==== Sys2Proof/Machine/Cycle.lean ====
section
/-! DEFINITION. The cycle state machine and the button services (44_cycle_fsm.md): SVC_ALARM, SVC_UP,
SVC_DOWN, SVC_TEST. -/

namespace Sys2Proof.Machine

/-- `LastStepRearm()` (44_cycle_fsm.md R142): it reads the decremented count. -/
def lastStepRearm (s : State) : State :=
  if s.cfg.lastStepRearm ∧ s.stepsRem = 0 then { s with alarm := true } else s

/-- `ActiveStep()` (44_cycle_fsm.md R141). -/
def activeStep (s : State) : State :=
  lastStepRearm { emitStep s with stepsRem := s.stepsRem - 1 }

/-- `EndActive()` (44_cycle_fsm.md R143). -/
def endActive (s : State) : State :=
  let s := { s with phase := .pause, busyQ := false }
  if s.crp then { s with crp := false, alarm := true } else s

/-- `StartActive()` (44_cycle_fsm.md R144). -/
def startActive (s : State) : State :=
  { s with
    phase := .active
    spc := wrap s.cfg.stepsW (stepsPerCycle s.cfg s.level)
    stepsRem := wrap s.cfg.stepsW (stepsPerCycle s.cfg s.level)
    stepIv := wrap s.cfg.siW (stepIntervalFor s.cfg s.testMode s.level)
    dirQ := !s.dirQ
    busyQ := true }

/-- The transition of a consumed alarm (44_cycle_fsm.md R140). -/
def consumeAlarm (s : State) : State :=
  match s.phase with
  | .active => if 0 < s.stepsRem then activeStep s else endActive s
  | .pause => startActive s

/-- The body of SVC_ALARM (44_cycle_fsm.md R140). -/
def svcAlarmBody (s : State) : State :=
  goto .sUp (if s.alarm then consumeAlarm { s with alarm := false } else s)

/-- The body of SVC_UP (44_cycle_fsm.md R145). -/
def svcUpBody (s : State) : State :=
  goto .sDown
    (if s.upEvt then
      displayRestart
        { s with
          upEvt := false
          level := if s.dispOn ∧ s.level < s.cfg.stepLevels then wrap s.cfg.levelW (s.level + 1) else s.level }
    else s)

/-- The body of SVC_DOWN (44_cycle_fsm.md R146). -/
def svcDownBody (s : State) : State :=
  goto .sPoll
    (if s.downEvt then
      displayRestart
        { s with
          downEvt := false
          level := if s.dispOn ∧ 1 < s.level then s.level - 1 else s.level }
    else s)

/-- `LeaveTest()` (44_cycle_fsm.md R148): `test_mode` is already the new value. -/
def leaveTest (s : State) : State :=
  { s with stepIv := wrap s.cfg.siW (stepIntervalFor s.cfg s.testMode s.level), crp := true }

/-- The toggle of a consumed test event (44_cycle_fsm.md R147, R149). -/
def toggleTest (s : State) : State :=
  let s' := displayRestart { s with testEvt := false, testMode := !s.testMode }
  if s.testMode then leaveTest s' else s'

/-- The body of SVC_TEST (44_cycle_fsm.md R147). -/
def svcTestBody (s : State) : State := goto .sRender (if s.testEvt then toggleTest s else s)

/-- SVC_ALARM (44_cycle_fsm.md R140). -/
def execSvcAlarm (s : State) : Host.Outcome State Fault Refusal := inSequence .sAlarm svcAlarmBody s

/-- SVC_UP (44_cycle_fsm.md R145). -/
def execSvcUp (s : State) : Host.Outcome State Fault Refusal := inSequence .sUp svcUpBody s

/-- SVC_DOWN (44_cycle_fsm.md R146). -/
def execSvcDown (s : State) : Host.Outcome State Fault Refusal := inSequence .sDown svcDownBody s

/-- SVC_TEST (44_cycle_fsm.md R147). -/
def execSvcTest (s : State) : Host.Outcome State Fault Refusal := inSequence .sTsvc svcTestBody s

end Sys2Proof.Machine
end

