-- ==== Sys2Proof/Machine/Display.lean ====
section
/-! DEFINITION. The seven-segment decoder and RENDER (45_display_decoder.md). -/

namespace Sys2Proof.Machine

/-- `Decode(d)` (45_display_decoder.md R160): `none` is `reject`. -/
def decodeDigit (tbl : SegTable) (d : Nat) : Option SegMask :=
  match d with
  | 0 => some tbl.d0
  | 1 => some tbl.d1
  | 2 => some tbl.d2
  | 3 => some tbl.d3
  | 4 => some tbl.d4
  | 5 => some tbl.d5
  | 6 => some tbl.d6
  | 7 => some tbl.d7
  | 8 => some tbl.d8
  | 9 => some tbl.d9
  | _ => none

/-- The body of RENDER (45_display_decoder.md R162). On `reject` the segments keep their pattern, the
sticky `render_err` is set and the outcome fault(RenderReject) is recorded (R163, 60_exceptions.md R201;
log 4). With the display off it blanks (R165). -/
def renderBody (s : State) : State :=
  goto .sIdle
    (if s.dispOn then
      match decodeDigit s.cfg.segTable s.level with
      | none => { s with renderErr := true, report := .fault .renderReject }
      | some m => { s with segQ := m }
    else { s with segQ := 0#7 })

/-- RENDER (45_display_decoder.md R162). -/
def execRender (s : State) : Host.Outcome State Fault Refusal := inSequence .sRender renderBody s

end Sys2Proof.Machine
end

