-- ==== Sys2Proof/Machine/Input.lean ====
section
/-! DEFINITION. Debounce-gated input capture (41_input_capture.md): EDGE_UP, EDGE_DOWN, POLL_TEST. -/

namespace Sys2Proof.Machine

/-- The handler of EDGE_UP: an armed button raises its event and is disarmed (41_input_capture.md R110). -/
def captureUp (s : State) : State :=
  if s.upArmed then { s with upEvt := true, upArmed := false, debUp := 0 } else s

/-- The handler of EDGE_DOWN (41_input_capture.md R111). -/
def captureDown (s : State) : State :=
  if s.downArmed then { s with downEvt := true, downArmed := false, debDown := 0 } else s

/-- The body of POLL_TEST (41_input_capture.md R113). -/
def pollTestBody (t : Bit) (s : State) : State :=
  let s := if testPressed s t then { s with testEvt := true, testArmed := false, debTest := 0 } else s
  goto .sTsvc { s with testPrev := t }

/-- EDGE_UP (41_input_capture.md R110). -/
def execEdgeUp (s : State) : Host.Outcome State Fault Refusal := takeIrq captureUp s

/-- EDGE_DOWN (41_input_capture.md R111). -/
def execEdgeDown (s : State) : Host.Outcome State Fault Refusal := takeIrq captureDown s

/-- POLL_TEST (41_input_capture.md R113). -/
def execPollTest (t : Bit) (s : State) : Host.Outcome State Fault Refusal :=
  inSequence .sPoll (pollTestBody t) s

end Sys2Proof.Machine
end

