-- ==== Sys2Proof/Machine/Sequencer.lean ====
section
/-! DEFINITION. IDLE (46_main_loop.md R172) and RESET (70_reset_and_hazards.md R220). -/

namespace Sys2Proof.Machine

/-- The body of IDLE: the check and the entry to the wait are one operation (46_main_loop.md R172). -/
def idleBody (s : State) : State := goto (if anyPending s then .sAlarm else .sWait) s

/-- IDLE (46_main_loop.md R172). -/
def execIdle (s : State) : Host.Outcome State Fault Refusal := inSequence .sIdle idleBody s

/-- RESET (70_reset_and_hazards.md R220): every register to its reset value; `out_log` and `refused`
stay. The model's own fields: the configuration, the rest of the stream, the draws and the report stay,
and the stream now counts as begun (R222; log 5). -/
def execReset (s : State) : Host.Outcome State Fault Refusal :=
  .next { State.resetOf s.cfg with
    outLog := s.outLog, refused := s.refused, report := s.report, stream := s.stream, draws := s.draws }

end Sys2Proof.Machine
end

