-- ==== Sys2Proof/Machine/Tick.lean ====
section
/-! DEFINITION. OVF and its parts: the cycle timer (42_cycle_timer.md), the ms prescaler
(40_tick_source.md), the display timer (43_display_timeout.md) and the debounce re-arm
(41_input_capture.md R115). -/

namespace Sys2Proof.Machine

/-- `CycleTimerStep()` (42_cycle_timer.md R121): increment, then compare for exact equality. -/
def cycleTimerStep (s : State) : State :=
  let c := incr s.cfg.cycW s.cycCnt
  if c = cycleThreshold s then { s with cycCnt := 0, alarm := true }
  else { s with cycCnt := c }

/-- `DisplayStep()` (43_display_timeout.md R131). -/
def displayStep (s : State) : State :=
  if s.dispOn then
    let d := incr s.cfg.dispW s.dispCnt
    if d = s.cfg.displayMs then
      let e := incr s.cfg.dsecW s.dispSec
      if e = s.cfg.dispPeriods then { s with dispOn := false, dispCnt := 0, dispSec := 0 }
      else { s with dispCnt := 0, dispSec := e }
    else { s with dispCnt := d }
  else s

/-- `DebounceStep(up)` (41_input_capture.md R115). -/
def debounceUp (s : State) : State :=
  let r := debounceNext s.cfg s.upArmed s.debUp
  { s with upArmed := r.1, debUp := r.2 }

/-- `DebounceStep(down)` (41_input_capture.md R115). -/
def debounceDown (s : State) : State :=
  let r := debounceNext s.cfg s.downArmed s.debDown
  { s with downArmed := r.1, debDown := r.2 }

/-- `DebounceStep(test)` (41_input_capture.md R115). -/
def debounceTest (s : State) : State :=
  let r := debounceNext s.cfg s.testArmed s.debTest
  { s with testArmed := r.1, debTest := r.2 }

/-- `MsTick()`: the display step, then the re-arm steps of up, down and test (40_tick_source.md R102). -/
def msTick (s : State) : State := debounceTest (debounceDown (debounceUp (displayStep s)))

/-- `PrescalerStep()` (40_tick_source.md R101): the sum is compared with TPM before it is cut to the
register's width. -/
def prescalerStep (s : State) : State :=
  let p := s.preCnt + 1
  if p = s.cfg.tpm then msTick { s with preCnt := 0 }
  else { s with preCnt := wrap s.cfg.preW p }

/-- The handler of OVF: the cycle timer, then the prescaler (40_tick_source.md R100). -/
def ovfHandler (s : State) : State := prescalerStep (cycleTimerStep s)

/-- OVF (40_tick_source.md R100). -/
def execOvf (s : State) : Host.Outcome State Fault Refusal := takeIrq ovfHandler s

end Sys2Proof.Machine
end

