-- ==== Sys2Proof/Machine/Dispatch.lean ====
section
/-! DEFINITION. One arm for each operation of 30_encoding.md R64. -/

namespace Sys2Proof.Machine

def exec (i : Instr) (s : State) : Host.Outcome State Fault Refusal :=
  match i with
  | .ovf => Sys2Proof.Machine.execOvf s
  | .edgeUp => Sys2Proof.Machine.execEdgeUp s
  | .edgeDown => Sys2Proof.Machine.execEdgeDown s
  | .svcAlarm => Sys2Proof.Machine.execSvcAlarm s
  | .svcUp => Sys2Proof.Machine.execSvcUp s
  | .svcDown => Sys2Proof.Machine.execSvcDown s
  | .pollTest t => Sys2Proof.Machine.execPollTest t s
  | .svcTest => Sys2Proof.Machine.execSvcTest s
  | .render => Sys2Proof.Machine.execRender s
  | .idle => Sys2Proof.Machine.execIdle s
  | .reset => Sys2Proof.Machine.execReset s

end Sys2Proof.Machine
end

