-- ==== Sys2Proof/Machine/Ports.lean ====
section
/-! DEFINITION. The ports of the block (30_encoding.md R68): the input strobes as operations, and the
output lines as functions of the state at an operation boundary (R69). -/

namespace Sys2Proof.Machine

/-- What the input ports carry as operations of their own (30_encoding.md R68). `test_n_i` is not among
them: it is sampled by POLL_TEST, and a change of it is no operation (41_input_capture.md R114). -/
def strobeOp : EnvOp → Instr
  | .reset => .reset
  | .ovf => .ovf
  | .edgeUp => .edgeUp
  | .edgeDown => .edgeDown

/-- `dir_o = dir_q`. -/
def dirO (s : State) : Bit := s.dirQ

/-- `dp_o = busy_q` (45_display_decoder.md R164). -/
def dpO (s : State) : Bit := s.busyQ

/-- `seg_o = SEG_ACTIVE_LOW ? ~seg_q : seg_q`. -/
def segO (s : State) : SegMask := if s.cfg.segActiveLow then ~~~s.segQ else s.segQ

/-- `render_err_o = render_err`. -/
def renderErrO (s : State) : Bit := s.renderErr

/-- `step_o` is 0 at every operation boundary; a pulse is an entry of `out_log` (10_state.md R45). -/
def stepO (_ : State) : Bit := false

end Sys2Proof.Machine
end

