-- ==== Sys2Proof/Machine/Stream.lean ====
section
/-! DEFINITION. Which operation runs next (20_memory.md R54, R55). The operation stream is the list of
words in State; a stream must begin with RESET (70_reset_and_hazards.md R222). When the list is empty
the environment's choice is a free value (log 2). -/

namespace Sys2Proof.Machine

/-- The refusal of a word that names no operation (30_encoding.md R70, R71). -/
def refusalOf : Reject → Refusal
  | .reservedOpcode => .reservedOpcode
  | .reservedBits => .reservedBits

/-- The operation the environment picks when no word is listed (20_memory.md R55): RESET at power-up
(70_reset_and_hazards.md R222); else the CTRL micro-operation at `ctrl_pc` if CTRL is chosen and has an
enabled step (46_main_loop.md R171), else an operation of the input ports. -/
def freeOp (s : State) : Instr :=
  if s.started then
    let c := Config.freeChoice s.draws
    match c.ctrlSteps, microOp s.ctrlPc c.level with
    | true, some i => i
    | _, _ => strobeOp c.envOp
  else .reset

/-- What the front of the stream gives: an operation to run or a reason to refuse, with the state from
which the word has been taken and in which the last step's report is cleared. -/
inductive Fetched where
  | run (i : Instr) (s : State)
  | reject (r : Refusal) (s : State)

/-- Take the next operation. Decoding comes before the check that a stream begins with RESET (log 6). -/
def takeNext (s : State) : Fetched :=
  match s.stream with
  | [] => .run (freeOp s) { s with draws := s.draws + 1, report := .done }
  | w :: rest =>
    match decode w with
    | .error e => .reject (refusalOf e) { s with stream := rest, report := .done }
    | .ok i =>
      if s.started ∨ i = .reset then .run i { s with stream := rest, report := .done }
      else .reject .outOfSequence { s with stream := rest, report := .done }

/-- A configuration that is not admitted is refused before any operation is taken (00_scope.md R2, R7;
60_exceptions.md R201; log 10); an admitted one takes the next operation. -/
def fetch (s : State) : Fetched :=
  if s.cfg.admitted then takeNext s else .reject .badConfig s

/-- Place a word at the front of the stream, so that the very next step runs it: the stream counts as
begun, and for a CTRL word the sequencer stands at its micro-operation (30_encoding.md R72; log 3). -/
def placeWord (w : OpWord) (s : State) : State :=
  let p :=
    match decode w with
    | .ok i => (homePc i).getD s.ctrlPc
    | .error _ => s.ctrlPc
  { s with stream := w :: s.stream, started := true, ctrlPc := p }

end Sys2Proof.Machine
end

