-- ==== Sys2Proof/Machine/Step.lean ====
section
/-! DEFINITION. One step: the machine takes the next operation of the stream (20_memory.md R54) and runs
it as one atomic operation (00_scope.md R6), or records why it is refused (R7). -/

namespace Sys2Proof.Machine

/-- One step. It never stops: a refusal is a next state that records it (00_scope.md R7; log 4). -/
def step (s : State) : Host.Outcome State Fault Refusal :=
  match fetch s with
  | .run i s' => exec i s'
  | .reject r s' => .next (refuse r s')

/-- `s` with the word `w` where `step` takes its next operation (log 3). -/
def State.withFetchWord (s : State) (_nbits w : Nat) : State := placeWord (BitVec.ofNat 8 w) s

/-- Run a list of operations from a state, one atomic operation after another, with nothing between
them (30_encoding.md R74). -/
def runOps : List Instr → State → Host.Outcome State Fault Refusal
  | [], s => .next s
  | i :: is, s =>
    match exec i s with
    | .next t => runOps is t
    | .fault f => .fault f
    | .refused r => .refused r

end Sys2Proof.Machine
end

