-- ==== Sys2Proof/Safety.lean ====
section
/-! DEFINITION. What counts as a good state and a safe run: the gone-wrong flags of 60_exceptions.md
R201, the invariants of 10_state.md section 9, and the runs and fairness of 46_main_loop.md R175, R176. -/

namespace Sys2Proof.Machine

/-- Neither `render_err` nor `refused` is set: otherwise the state counts as gone wrong
(60_exceptions.md R201). -/
def State.good (s : State) : Bool := !s.renderErr && !s.refused

/-- An operation the agents may take in this state: a CTRL micro-operation only at its place in the
sequence (46_main_loop.md R171), every other operation at any boundary (40_tick_source.md R105). -/
def Enabled (i : Instr) (s : State) : Prop := ∀ p, homePc i = some p → s.ctrlPc = p

/-- The operation consumes a pending button event, and so restarts the display window
(43_display_timeout.md R132): a button service at its place in the sequence with its event set. -/
def ServesButton (i : Instr) (s : State) : Prop :=
  (i = .svcUp ∧ s.ctrlPc = .sUp ∧ s.upEvt = true) ∨
  (i = .svcDown ∧ s.ctrlPc = .sDown ∧ s.downEvt = true) ∨
  (i = .svcTest ∧ s.ctrlPc = .sTsvc ∧ s.testEvt = true)

/-- A button's flag and re-arm counter are in step (10_state.md section 9, fifth line). -/
structure ButtonInv (c : Config) (armed : Bit) (deb : Nat) : Prop where
  /-- `*_armed = 1` implies `deb_* = 0`. -/
  armed_idle : armed = true → deb = 0
  /-- `deb_* < DEBOUNCE_MS`. -/
  deb_lt : deb < c.debounceMs

/-- The invariants of 10_state.md section 9, with the ranges of the registers (10_state.md R21 to R41).
They need an admitted configuration (00_scope.md R2) and two level steps or more: with one, LEVEL_INIT is
0 and the first line fails right after RESET (log 9). -/
structure BlockInv (s : State) : Prop where
  admitted : s.cfg.admitted = true
  two_levels : 2 ≤ s.cfg.stepLevels
  /-- `1 <= level <= STEP_LEVELS`. -/
  level_pos : 1 ≤ s.level
  level_le : s.level ≤ s.cfg.stepLevels
  /-- `pre_cnt < TPM`. -/
  pre_lt : s.preCnt < s.cfg.tpm
  /-- `cyc_cnt` fits its width. -/
  cyc_lt : s.cycCnt < 2 ^ s.cfg.cycW
  /-- `disp_cnt < DISPLAY_MS`. -/
  disp_cnt_lt : s.dispCnt < s.cfg.displayMs
  /-- `disp_sec < DISP_PERIODS`. -/
  disp_sec_lt : s.dispSec < s.cfg.dispPeriods
  /-- `disp_on = 0` implies `disp_cnt = 0` and `disp_sec = 0`. -/
  disp_off : s.dispOn = false → s.dispCnt = 0 ∧ s.dispSec = 0
  up : ButtonInv s.cfg s.upArmed s.debUp
  down : ButtonInv s.cfg s.downArmed s.debDown
  test : ButtonInv s.cfg s.testArmed s.debTest
  /-- `busy_q = 1` iff `phase = 0` (Active). -/
  busy_iff : s.busyQ = true ↔ s.phase = .active
  /-- `phase = 1` (Pause) implies `steps_rem = 0`. -/
  pause_done : s.phase = .pause → s.stepsRem = 0
  /-- `steps_rem <= spc` while `phase = 0`, except after RESET for an odd STEP_LEVELS. -/
  steps_le : s.phase = .active →
    s.stepsRem ≤ s.spc ∨ (s.cfg.stepLevels % 2 = 1 ∧ s.stepsRem ≤ s.cfg.frs / 2)
  /-- StepsPerCycle is at least 1 and at most FRS (44_cycle_fsm.md R150). -/
  spc_pos : 1 ≤ s.spc
  spc_le : s.spc ≤ s.cfg.frs
  /-- The Active threshold fits the cycle counter (42_cycle_timer.md R120). -/
  threshold_fits : s.cfg.tpm * s.stepIv < 2 ^ s.cfg.cycW
  /-- `step_iv` fits its width. -/
  step_iv_lt : s.stepIv < 2 ^ s.cfg.siW
  /-- `test_evt = 0` whenever `ctrl_pc` is not S_TSVC. -/
  test_evt : s.ctrlPc ≠ .sTsvc → s.testEvt = false
  /-- `render_err = 0`. -/
  no_render_err : s.renderErr = false

/-- An endless run of enabled operations (46_main_loop.md R176): state `n` is the one at operation
boundary `n`. -/
structure IsRun (states : Nat → State) (ops : Nat → Instr) : Prop where
  steps : ∀ n, exec (ops n) (states n) = .next (states (n + 1))
  enabled : ∀ n, Enabled (ops n) (states n)

/-- The fairness premise (46_main_loop.md R175): overflows come without end, and a CTRL agent that is not
in S_WAIT steps again. -/
structure FairRun (states : Nat → State) (ops : Nat → Instr) : Prop where
  run : IsRun states ops
  ovf_forever : ∀ n, ∃ m, n ≤ m ∧ ops m = .ovf
  ctrl_steps : ∀ n, (states n).ctrlPc ≠ .sWait → ∃ m, n ≤ m ∧ (ops m).agent = .ctrl

end Sys2Proof.Machine
end

