-- ==== Sys2Proof/Laws/State.lean ====
section
/-! SUPPORT. What each field of the state is after each of the shared updates of Machine/Ops.lean: one
lemma per field per update. -/

namespace Sys2Proof.Machine

variable (s : State)

@[simp] theorem goto_cfg (p : CtrlPc) : (goto p s).cfg = s.cfg := rfl
@[simp] theorem goto_preCnt (p : CtrlPc) : (goto p s).preCnt = s.preCnt := rfl
@[simp] theorem goto_cycCnt (p : CtrlPc) : (goto p s).cycCnt = s.cycCnt := rfl
@[simp] theorem goto_alarm (p : CtrlPc) : (goto p s).alarm = s.alarm := rfl
@[simp] theorem goto_dispOn (p : CtrlPc) : (goto p s).dispOn = s.dispOn := rfl
@[simp] theorem goto_dispCnt (p : CtrlPc) : (goto p s).dispCnt = s.dispCnt := rfl
@[simp] theorem goto_dispSec (p : CtrlPc) : (goto p s).dispSec = s.dispSec := rfl
@[simp] theorem goto_upEvt (p : CtrlPc) : (goto p s).upEvt = s.upEvt := rfl
@[simp] theorem goto_downEvt (p : CtrlPc) : (goto p s).downEvt = s.downEvt := rfl
@[simp] theorem goto_testEvt (p : CtrlPc) : (goto p s).testEvt = s.testEvt := rfl
@[simp] theorem goto_upArmed (p : CtrlPc) : (goto p s).upArmed = s.upArmed := rfl
@[simp] theorem goto_downArmed (p : CtrlPc) : (goto p s).downArmed = s.downArmed := rfl
@[simp] theorem goto_testArmed (p : CtrlPc) : (goto p s).testArmed = s.testArmed := rfl
@[simp] theorem goto_debUp (p : CtrlPc) : (goto p s).debUp = s.debUp := rfl
@[simp] theorem goto_debDown (p : CtrlPc) : (goto p s).debDown = s.debDown := rfl
@[simp] theorem goto_debTest (p : CtrlPc) : (goto p s).debTest = s.debTest := rfl
@[simp] theorem goto_testPrev (p : CtrlPc) : (goto p s).testPrev = s.testPrev := rfl
@[simp] theorem goto_phase (p : CtrlPc) : (goto p s).phase = s.phase := rfl
@[simp] theorem goto_stepsRem (p : CtrlPc) : (goto p s).stepsRem = s.stepsRem := rfl
@[simp] theorem goto_spc (p : CtrlPc) : (goto p s).spc = s.spc := rfl
@[simp] theorem goto_stepIv (p : CtrlPc) : (goto p s).stepIv = s.stepIv := rfl
@[simp] theorem goto_level (p : CtrlPc) : (goto p s).level = s.level := rfl
@[simp] theorem goto_testMode (p : CtrlPc) : (goto p s).testMode = s.testMode := rfl
@[simp] theorem goto_crp (p : CtrlPc) : (goto p s).crp = s.crp := rfl
@[simp] theorem goto_dirQ (p : CtrlPc) : (goto p s).dirQ = s.dirQ := rfl
@[simp] theorem goto_busyQ (p : CtrlPc) : (goto p s).busyQ = s.busyQ := rfl
@[simp] theorem goto_segQ (p : CtrlPc) : (goto p s).segQ = s.segQ := rfl
@[simp] theorem goto_renderErr (p : CtrlPc) : (goto p s).renderErr = s.renderErr := rfl
@[simp] theorem goto_ctrlPc (p : CtrlPc) : (goto p s).ctrlPc = p := rfl
@[simp] theorem goto_outLog (p : CtrlPc) : (goto p s).outLog = s.outLog := rfl
@[simp] theorem goto_refused (p : CtrlPc) : (goto p s).refused = s.refused := rfl
@[simp] theorem goto_started (p : CtrlPc) : (goto p s).started = s.started := rfl
@[simp] theorem goto_report (p : CtrlPc) : (goto p s).report = s.report := rfl
@[simp] theorem goto_stream (p : CtrlPc) : (goto p s).stream = s.stream := rfl
@[simp] theorem goto_draws (p : CtrlPc) : (goto p s).draws = s.draws := rfl

@[simp] theorem refuse_cfg (r : Refusal) : (refuse r s).cfg = s.cfg := rfl
@[simp] theorem refuse_preCnt (r : Refusal) : (refuse r s).preCnt = s.preCnt := rfl
@[simp] theorem refuse_cycCnt (r : Refusal) : (refuse r s).cycCnt = s.cycCnt := rfl
@[simp] theorem refuse_alarm (r : Refusal) : (refuse r s).alarm = s.alarm := rfl
@[simp] theorem refuse_dispOn (r : Refusal) : (refuse r s).dispOn = s.dispOn := rfl
@[simp] theorem refuse_dispCnt (r : Refusal) : (refuse r s).dispCnt = s.dispCnt := rfl
@[simp] theorem refuse_dispSec (r : Refusal) : (refuse r s).dispSec = s.dispSec := rfl
@[simp] theorem refuse_upEvt (r : Refusal) : (refuse r s).upEvt = s.upEvt := rfl
@[simp] theorem refuse_downEvt (r : Refusal) : (refuse r s).downEvt = s.downEvt := rfl
@[simp] theorem refuse_testEvt (r : Refusal) : (refuse r s).testEvt = s.testEvt := rfl
@[simp] theorem refuse_upArmed (r : Refusal) : (refuse r s).upArmed = s.upArmed := rfl
@[simp] theorem refuse_downArmed (r : Refusal) : (refuse r s).downArmed = s.downArmed := rfl
@[simp] theorem refuse_testArmed (r : Refusal) : (refuse r s).testArmed = s.testArmed := rfl
@[simp] theorem refuse_debUp (r : Refusal) : (refuse r s).debUp = s.debUp := rfl
@[simp] theorem refuse_debDown (r : Refusal) : (refuse r s).debDown = s.debDown := rfl
@[simp] theorem refuse_debTest (r : Refusal) : (refuse r s).debTest = s.debTest := rfl
@[simp] theorem refuse_testPrev (r : Refusal) : (refuse r s).testPrev = s.testPrev := rfl
@[simp] theorem refuse_phase (r : Refusal) : (refuse r s).phase = s.phase := rfl
@[simp] theorem refuse_stepsRem (r : Refusal) : (refuse r s).stepsRem = s.stepsRem := rfl
@[simp] theorem refuse_spc (r : Refusal) : (refuse r s).spc = s.spc := rfl
@[simp] theorem refuse_stepIv (r : Refusal) : (refuse r s).stepIv = s.stepIv := rfl
@[simp] theorem refuse_level (r : Refusal) : (refuse r s).level = s.level := rfl
@[simp] theorem refuse_testMode (r : Refusal) : (refuse r s).testMode = s.testMode := rfl
@[simp] theorem refuse_crp (r : Refusal) : (refuse r s).crp = s.crp := rfl
@[simp] theorem refuse_dirQ (r : Refusal) : (refuse r s).dirQ = s.dirQ := rfl
@[simp] theorem refuse_busyQ (r : Refusal) : (refuse r s).busyQ = s.busyQ := rfl
@[simp] theorem refuse_segQ (r : Refusal) : (refuse r s).segQ = s.segQ := rfl
@[simp] theorem refuse_renderErr (r : Refusal) : (refuse r s).renderErr = s.renderErr := rfl
@[simp] theorem refuse_ctrlPc (r : Refusal) : (refuse r s).ctrlPc = s.ctrlPc := rfl
@[simp] theorem refuse_outLog (r : Refusal) : (refuse r s).outLog = s.outLog := rfl
@[simp] theorem refuse_refused (r : Refusal) : (refuse r s).refused = true := rfl
@[simp] theorem refuse_started (r : Refusal) : (refuse r s).started = s.started := rfl
@[simp] theorem refuse_report (r : Refusal) : (refuse r s).report = .refuse r := rfl
@[simp] theorem refuse_stream (r : Refusal) : (refuse r s).stream = s.stream := rfl
@[simp] theorem refuse_draws (r : Refusal) : (refuse r s).draws = s.draws := rfl

@[simp] theorem emitStep_cfg : (emitStep s).cfg = s.cfg := rfl
@[simp] theorem emitStep_preCnt : (emitStep s).preCnt = s.preCnt := rfl
@[simp] theorem emitStep_cycCnt : (emitStep s).cycCnt = s.cycCnt := rfl
@[simp] theorem emitStep_alarm : (emitStep s).alarm = s.alarm := rfl
@[simp] theorem emitStep_dispOn : (emitStep s).dispOn = s.dispOn := rfl
@[simp] theorem emitStep_dispCnt : (emitStep s).dispCnt = s.dispCnt := rfl
@[simp] theorem emitStep_dispSec : (emitStep s).dispSec = s.dispSec := rfl
@[simp] theorem emitStep_upEvt : (emitStep s).upEvt = s.upEvt := rfl
@[simp] theorem emitStep_downEvt : (emitStep s).downEvt = s.downEvt := rfl
@[simp] theorem emitStep_testEvt : (emitStep s).testEvt = s.testEvt := rfl
@[simp] theorem emitStep_upArmed : (emitStep s).upArmed = s.upArmed := rfl
@[simp] theorem emitStep_downArmed : (emitStep s).downArmed = s.downArmed := rfl
@[simp] theorem emitStep_testArmed : (emitStep s).testArmed = s.testArmed := rfl
@[simp] theorem emitStep_debUp : (emitStep s).debUp = s.debUp := rfl
@[simp] theorem emitStep_debDown : (emitStep s).debDown = s.debDown := rfl
@[simp] theorem emitStep_debTest : (emitStep s).debTest = s.debTest := rfl
@[simp] theorem emitStep_testPrev : (emitStep s).testPrev = s.testPrev := rfl
@[simp] theorem emitStep_phase : (emitStep s).phase = s.phase := rfl
@[simp] theorem emitStep_stepsRem : (emitStep s).stepsRem = s.stepsRem := rfl
@[simp] theorem emitStep_spc : (emitStep s).spc = s.spc := rfl
@[simp] theorem emitStep_stepIv : (emitStep s).stepIv = s.stepIv := rfl
@[simp] theorem emitStep_level : (emitStep s).level = s.level := rfl
@[simp] theorem emitStep_testMode : (emitStep s).testMode = s.testMode := rfl
@[simp] theorem emitStep_crp : (emitStep s).crp = s.crp := rfl
@[simp] theorem emitStep_dirQ : (emitStep s).dirQ = s.dirQ := rfl
@[simp] theorem emitStep_busyQ : (emitStep s).busyQ = s.busyQ := rfl
@[simp] theorem emitStep_segQ : (emitStep s).segQ = s.segQ := rfl
@[simp] theorem emitStep_renderErr : (emitStep s).renderErr = s.renderErr := rfl
@[simp] theorem emitStep_ctrlPc : (emitStep s).ctrlPc = s.ctrlPc := rfl
@[simp] theorem emitStep_outLog : (emitStep s).outLog = s.outLog ++ [.step] := rfl
@[simp] theorem emitStep_refused : (emitStep s).refused = s.refused := rfl
@[simp] theorem emitStep_started : (emitStep s).started = s.started := rfl
@[simp] theorem emitStep_report : (emitStep s).report = s.report := rfl
@[simp] theorem emitStep_stream : (emitStep s).stream = s.stream := rfl
@[simp] theorem emitStep_draws : (emitStep s).draws = s.draws := rfl

@[simp] theorem displayRestart_cfg : (displayRestart s).cfg = s.cfg := rfl
@[simp] theorem displayRestart_preCnt : (displayRestart s).preCnt = s.preCnt := rfl
@[simp] theorem displayRestart_cycCnt : (displayRestart s).cycCnt = s.cycCnt := rfl
@[simp] theorem displayRestart_alarm : (displayRestart s).alarm = s.alarm := rfl
@[simp] theorem displayRestart_dispOn : (displayRestart s).dispOn = true := rfl
@[simp] theorem displayRestart_dispCnt : (displayRestart s).dispCnt = 0 := rfl
@[simp] theorem displayRestart_dispSec : (displayRestart s).dispSec = 0 := rfl
@[simp] theorem displayRestart_upEvt : (displayRestart s).upEvt = s.upEvt := rfl
@[simp] theorem displayRestart_downEvt : (displayRestart s).downEvt = s.downEvt := rfl
@[simp] theorem displayRestart_testEvt : (displayRestart s).testEvt = s.testEvt := rfl
@[simp] theorem displayRestart_upArmed : (displayRestart s).upArmed = s.upArmed := rfl
@[simp] theorem displayRestart_downArmed : (displayRestart s).downArmed = s.downArmed := rfl
@[simp] theorem displayRestart_testArmed : (displayRestart s).testArmed = s.testArmed := rfl
@[simp] theorem displayRestart_debUp : (displayRestart s).debUp = s.debUp := rfl
@[simp] theorem displayRestart_debDown : (displayRestart s).debDown = s.debDown := rfl
@[simp] theorem displayRestart_debTest : (displayRestart s).debTest = s.debTest := rfl
@[simp] theorem displayRestart_testPrev : (displayRestart s).testPrev = s.testPrev := rfl
@[simp] theorem displayRestart_phase : (displayRestart s).phase = s.phase := rfl
@[simp] theorem displayRestart_stepsRem : (displayRestart s).stepsRem = s.stepsRem := rfl
@[simp] theorem displayRestart_spc : (displayRestart s).spc = s.spc := rfl
@[simp] theorem displayRestart_stepIv : (displayRestart s).stepIv = s.stepIv := rfl
@[simp] theorem displayRestart_level : (displayRestart s).level = s.level := rfl
@[simp] theorem displayRestart_testMode : (displayRestart s).testMode = s.testMode := rfl
@[simp] theorem displayRestart_crp : (displayRestart s).crp = s.crp := rfl
@[simp] theorem displayRestart_dirQ : (displayRestart s).dirQ = s.dirQ := rfl
@[simp] theorem displayRestart_busyQ : (displayRestart s).busyQ = s.busyQ := rfl
@[simp] theorem displayRestart_segQ : (displayRestart s).segQ = s.segQ := rfl
@[simp] theorem displayRestart_renderErr : (displayRestart s).renderErr = s.renderErr := rfl
@[simp] theorem displayRestart_ctrlPc : (displayRestart s).ctrlPc = s.ctrlPc := rfl
@[simp] theorem displayRestart_outLog : (displayRestart s).outLog = s.outLog := rfl
@[simp] theorem displayRestart_refused : (displayRestart s).refused = s.refused := rfl
@[simp] theorem displayRestart_started : (displayRestart s).started = s.started := rfl
@[simp] theorem displayRestart_report : (displayRestart s).report = s.report := rfl
@[simp] theorem displayRestart_stream : (displayRestart s).stream = s.stream := rfl
@[simp] theorem displayRestart_draws : (displayRestart s).draws = s.draws := rfl

@[simp] theorem wake_cfg : (wake s).cfg = s.cfg := by unfold wake; split <;> simp_all
@[simp] theorem wake_preCnt : (wake s).preCnt = s.preCnt := by unfold wake; split <;> simp_all
@[simp] theorem wake_cycCnt : (wake s).cycCnt = s.cycCnt := by unfold wake; split <;> simp_all
@[simp] theorem wake_alarm : (wake s).alarm = s.alarm := by unfold wake; split <;> simp_all
@[simp] theorem wake_dispOn : (wake s).dispOn = s.dispOn := by unfold wake; split <;> simp_all
@[simp] theorem wake_dispCnt : (wake s).dispCnt = s.dispCnt := by unfold wake; split <;> simp_all
@[simp] theorem wake_dispSec : (wake s).dispSec = s.dispSec := by unfold wake; split <;> simp_all
@[simp] theorem wake_upEvt : (wake s).upEvt = s.upEvt := by unfold wake; split <;> simp_all
@[simp] theorem wake_downEvt : (wake s).downEvt = s.downEvt := by unfold wake; split <;> simp_all
@[simp] theorem wake_testEvt : (wake s).testEvt = s.testEvt := by unfold wake; split <;> simp_all
@[simp] theorem wake_upArmed : (wake s).upArmed = s.upArmed := by unfold wake; split <;> simp_all
@[simp] theorem wake_downArmed : (wake s).downArmed = s.downArmed := by unfold wake; split <;> simp_all
@[simp] theorem wake_testArmed : (wake s).testArmed = s.testArmed := by unfold wake; split <;> simp_all
@[simp] theorem wake_debUp : (wake s).debUp = s.debUp := by unfold wake; split <;> simp_all
@[simp] theorem wake_debDown : (wake s).debDown = s.debDown := by unfold wake; split <;> simp_all
@[simp] theorem wake_debTest : (wake s).debTest = s.debTest := by unfold wake; split <;> simp_all
@[simp] theorem wake_testPrev : (wake s).testPrev = s.testPrev := by unfold wake; split <;> simp_all
@[simp] theorem wake_phase : (wake s).phase = s.phase := by unfold wake; split <;> simp_all
@[simp] theorem wake_stepsRem : (wake s).stepsRem = s.stepsRem := by unfold wake; split <;> simp_all
@[simp] theorem wake_spc : (wake s).spc = s.spc := by unfold wake; split <;> simp_all
@[simp] theorem wake_stepIv : (wake s).stepIv = s.stepIv := by unfold wake; split <;> simp_all
@[simp] theorem wake_level : (wake s).level = s.level := by unfold wake; split <;> simp_all
@[simp] theorem wake_testMode : (wake s).testMode = s.testMode := by unfold wake; split <;> simp_all
@[simp] theorem wake_crp : (wake s).crp = s.crp := by unfold wake; split <;> simp_all
@[simp] theorem wake_dirQ : (wake s).dirQ = s.dirQ := by unfold wake; split <;> simp_all
@[simp] theorem wake_busyQ : (wake s).busyQ = s.busyQ := by unfold wake; split <;> simp_all
@[simp] theorem wake_segQ : (wake s).segQ = s.segQ := by unfold wake; split <;> simp_all
@[simp] theorem wake_renderErr : (wake s).renderErr = s.renderErr := by unfold wake; split <;> simp_all
@[simp] theorem wake_ctrlPc : (wake s).ctrlPc = if s.ctrlPc = .sWait then .sAlarm else s.ctrlPc := by unfold wake; split <;> simp_all
@[simp] theorem wake_outLog : (wake s).outLog = s.outLog := by unfold wake; split <;> simp_all
@[simp] theorem wake_refused : (wake s).refused = s.refused := by unfold wake; split <;> simp_all
@[simp] theorem wake_started : (wake s).started = s.started := by unfold wake; split <;> simp_all
@[simp] theorem wake_report : (wake s).report = s.report := by unfold wake; split <;> simp_all
@[simp] theorem wake_stream : (wake s).stream = s.stream := by unfold wake; split <;> simp_all
@[simp] theorem wake_draws : (wake s).draws = s.draws := by unfold wake; split <;> simp_all

end Sys2Proof.Machine
end

