-- ==== Sys2Proof/Laws/Ops.lean ====
section
/-! SUPPORT. What each shared operation can do, said once: the arithmetic, the interrupt and sequence
gates, the frame of each part of an operation, and the ways a step can go. Later proofs cite these
instead of unfolding the operations. -/

namespace Sys2Proof.Machine

/-! ### Register arithmetic -/

theorem wrap_lt (w n : Nat) : wrap w n < 2 ^ w := Nat.mod_lt _ (Nat.two_pow_pos w)

theorem wrap_le (w n : Nat) : wrap w n ≤ n := Nat.mod_le _ _

theorem wrap_of_lt {w n : Nat} (h : n < 2 ^ w) : wrap w n = n := Nat.mod_eq_of_lt h

theorem incr_lt (w n : Nat) : incr w n < 2 ^ w := wrap_lt w (n + 1)

theorem incr_of_lt {w n : Nat} (h : n + 1 < 2 ^ w) : incr w n = n + 1 := wrap_of_lt h

theorem incr_le (w n : Nat) : incr w n ≤ n + 1 := wrap_le w (n + 1)

theorem divide_of_pos {a b : Nat} (h : 0 < b) : divide a b = a / b := by
  simp [divide, Nat.pos_iff_ne_zero.mp h]

/-- The bounds of an admitted configuration, one by one (00_scope.md R2). -/
theorem admitted_iff {c : Config} : c.admitted = true ↔
    1 ≤ c.tpm ∧ 1 ≤ c.stepLevels ∧ c.stepLevels ≤ 9 ∧ c.stepLevels ≤ c.frs ∧ 1 ≤ c.activeMs ∧
    1 ≤ c.pauseMs ∧ 1 ≤ c.testMs ∧ 1 ≤ c.debounceMs ∧ 1 ≤ c.displayMs ∧ 1 ≤ c.dispPeriods ∧
    c.tpm * max c.activeMs (max c.pauseMs c.testMs) < 2 ^ c.cycW ∧ c.frs < 2 ^ c.stepsW ∧
    c.stepLevels * c.frs < 2 ^ 32 ∧ c.debounceMs < 2 ^ c.debW ∧ c.displayMs < 2 ^ c.dispW ∧
    c.dispPeriods < 2 ^ c.dsecW ∧ c.tpm ≤ 2 ^ c.preW ∧ c.stepLevels < 2 ^ c.levelW := by
  unfold Config.admitted
  exact decide_eq_true_iff

/-- With two level steps or more, RESET's level is a level (10_state.md R41). -/
theorem levelInit_bounds {c : Config} (h : 2 ≤ c.stepLevels) :
    1 ≤ c.levelInit ∧ c.levelInit ≤ c.stepLevels := by
  unfold Config.levelInit; omega

/-- 44_cycle_fsm.md R150: for a level in range SPC is at least 1, and it is at most FRS. -/
theorem stepsPerCycle_bounds {c : Config} {l : Nat} (hc : c.admitted = true) (h1 : 1 ≤ l)
    (h2 : l ≤ c.stepLevels) : 1 ≤ stepsPerCycle c l ∧ stepsPerCycle c l ≤ c.frs := by
  obtain ⟨-, hpos, -, hfrs, -⟩ := admitted_iff.mp hc
  have hprod : c.stepLevels ≤ l * c.frs := le_trans hfrs (Nat.le_mul_of_pos_left _ h1)
  rw [stepsPerCycle, divide_of_pos hpos]
  refine ⟨(Nat.one_le_div_iff hpos).mpr hprod, ?_⟩
  exact Nat.div_le_of_le_mul (Nat.mul_le_mul_right _ h2)

/-! ### The gates -/

@[simp] theorem takeIrq_next (h : State → State) (s : State) : takeIrq h s = .next (wake (h s)) := rfl

/-- The wake writes only `ctrl_pc`, and only from S_WAIT to S_ALARM (46_main_loop.md R174). -/
theorem wake_eq (s : State) :
    wake s = { s with ctrlPc := if s.ctrlPc = .sWait then .sAlarm else s.ctrlPc } := by
  unfold wake; split <;> rfl

theorem inSequence_home {home : CtrlPc} {s : State} (body : State → State) (h : s.ctrlPc = home) :
    inSequence home body s = .next (body s) := by
  simp [inSequence, h]

/-- A CTRL micro-operation runs its body at its place, or is refused elsewhere. -/
theorem inSequence_cases {home : CtrlPc} {body : State → State} {s t : State}
    (h : inSequence home body s = .next t) :
    (s.ctrlPc = home ∧ t = body s) ∨ (s.ctrlPc ≠ home ∧ t = refuse .outOfSequence s) := by
  unfold inSequence at h
  split at h
  · exact .inl ⟨‹_›, by simpa using h.symm⟩
  · exact .inr ⟨‹_›, by simpa using h.symm⟩

/-! ### The parts of OVF: what each may write -/

theorem cycleTimerStep_frame (s : State) :
    cycleTimerStep s = { s with cycCnt := (cycleTimerStep s).cycCnt, alarm := (cycleTimerStep s).alarm } := by
  unfold cycleTimerStep; dsimp only; split <;> rfl

theorem displayStep_frame (s : State) :
    displayStep s = { s with
      dispOn := (displayStep s).dispOn, dispCnt := (displayStep s).dispCnt, dispSec := (displayStep s).dispSec } := by
  unfold displayStep; dsimp only; repeat' split
  all_goals rfl

theorem msTick_frame (s : State) :
    msTick s = { s with
      dispOn := (msTick s).dispOn, dispCnt := (msTick s).dispCnt, dispSec := (msTick s).dispSec
      upArmed := (msTick s).upArmed, debUp := (msTick s).debUp
      downArmed := (msTick s).downArmed, debDown := (msTick s).debDown
      testArmed := (msTick s).testArmed, debTest := (msTick s).debTest } := by
  unfold msTick debounceTest debounceDown debounceUp; dsimp only
  rw [displayStep_frame]

/-- The ms tick, register by register: the display part and the three re-arm parts read and write
nothing of each other (40_tick_source.md R103). -/
theorem msTick_eq (s : State) :
    msTick s = { s with
      dispOn := (displayStep s).dispOn, dispCnt := (displayStep s).dispCnt, dispSec := (displayStep s).dispSec
      upArmed := (debounceNext s.cfg s.upArmed s.debUp).1, debUp := (debounceNext s.cfg s.upArmed s.debUp).2
      downArmed := (debounceNext s.cfg s.downArmed s.debDown).1
      debDown := (debounceNext s.cfg s.downArmed s.debDown).2
      testArmed := (debounceNext s.cfg s.testArmed s.debTest).1
      debTest := (debounceNext s.cfg s.testArmed s.debTest).2 } := by
  unfold msTick debounceTest debounceDown debounceUp; dsimp only
  rw [displayStep_frame]

/-- An OVF either ticks the millisecond or only counts (40_tick_source.md R101). -/
theorem prescalerStep_cases (s : State) :
    (s.preCnt + 1 = s.cfg.tpm ∧ prescalerStep s = msTick { s with preCnt := 0 }) ∨
    (s.preCnt + 1 ≠ s.cfg.tpm ∧ prescalerStep s = { s with preCnt := wrap s.cfg.preW (s.preCnt + 1) }) := by
  by_cases h : s.preCnt + 1 = s.cfg.tpm <;> simp [prescalerStep, h]

theorem prescalerStep_frame (s : State) :
    prescalerStep s = { s with
      preCnt := (prescalerStep s).preCnt
      dispOn := (prescalerStep s).dispOn, dispCnt := (prescalerStep s).dispCnt, dispSec := (prescalerStep s).dispSec
      upArmed := (prescalerStep s).upArmed, debUp := (prescalerStep s).debUp
      downArmed := (prescalerStep s).downArmed, debDown := (prescalerStep s).debDown
      testArmed := (prescalerStep s).testArmed, debTest := (prescalerStep s).debTest } := by
  obtain ⟨-, h⟩ | ⟨-, h⟩ := prescalerStep_cases s <;> rw [h]
  rw [msTick_frame]

/-- The four ways one ms tick of the display timer can go (43_display_timeout.md R131). -/
theorem displayStep_cases (s : State) :
    (s.dispOn = false ∧ displayStep s = s) ∨
    (s.dispOn = true ∧ incr s.cfg.dispW s.dispCnt ≠ s.cfg.displayMs ∧
      displayStep s = { s with dispCnt := incr s.cfg.dispW s.dispCnt }) ∨
    (s.dispOn = true ∧ incr s.cfg.dispW s.dispCnt = s.cfg.displayMs ∧
      incr s.cfg.dsecW s.dispSec ≠ s.cfg.dispPeriods ∧
      displayStep s = { s with dispCnt := 0, dispSec := incr s.cfg.dsecW s.dispSec }) ∨
    (s.dispOn = true ∧ incr s.cfg.dispW s.dispCnt = s.cfg.displayMs ∧
      incr s.cfg.dsecW s.dispSec = s.cfg.dispPeriods ∧
      displayStep s = { s with dispOn := false, dispCnt := 0, dispSec := 0 }) := by
  by_cases h0 : s.dispOn = true
  · by_cases h1 : incr s.cfg.dispW s.dispCnt = s.cfg.displayMs
    · by_cases h2 : incr s.cfg.dsecW s.dispSec = s.cfg.dispPeriods <;> simp [displayStep, h0, h1, h2]
    · simp [displayStep, h0, h1]
  · simp [displayStep, h0]

/-- One re-arm step (41_input_capture.md R115): an armed button is left alone, a disarmed one counts
on, or is armed again with its counter at 0. -/
theorem debounceNext_cases (c : Config) (armed : Bit) (deb : Nat) :
    (armed = true ∧ debounceNext c armed deb = (true, deb)) ∨
    (armed = false ∧ incr c.debW deb ≠ c.debounceMs ∧ debounceNext c armed deb = (false, incr c.debW deb)) ∨
    (armed = false ∧ incr c.debW deb = c.debounceMs ∧ debounceNext c armed deb = (true, 0)) := by
  cases armed
  · by_cases h : incr c.debW deb = c.debounceMs <;> simp [debounceNext, h]
  · simp [debounceNext]

/-- The cycle timer, register by register (42_cycle_timer.md R121). -/
theorem cycleTimerStep_eq (s : State) :
    cycleTimerStep s = { s with
      cycCnt := if incr s.cfg.cycW s.cycCnt = cycleThreshold s then 0 else incr s.cfg.cycW s.cycCnt
      alarm := s.alarm || decide (incr s.cfg.cycW s.cycCnt = cycleThreshold s) } := by
  by_cases h : incr s.cfg.cycW s.cycCnt = cycleThreshold s <;> simp [cycleTimerStep, h]

/-- The display step does not read the prescaler. -/
theorem displayStep_setPre (s : State) (n : Nat) :
    displayStep { s with preCnt := n } = { displayStep s with preCnt := n } := by
  unfold displayStep; dsimp only; repeat' split
  all_goals rfl

/-- The display step does not read the cycle timer. -/
theorem displayStep_setCyc (s : State) (n : Nat) (a : Bit) :
    displayStep { s with cycCnt := n, alarm := a } = { displayStep s with cycCnt := n, alarm := a } := by
  unfold displayStep; dsimp only; repeat' split
  all_goals rfl

/-- The prescaler and the ms tick it may make, register by register (40_tick_source.md R101, R102). -/
theorem prescalerStep_eq (s : State) :
    prescalerStep s = { s with
      preCnt := if s.preCnt + 1 = s.cfg.tpm then 0 else wrap s.cfg.preW (s.preCnt + 1)
      dispOn := if s.preCnt + 1 = s.cfg.tpm then (displayStep s).dispOn else s.dispOn
      dispCnt := if s.preCnt + 1 = s.cfg.tpm then (displayStep s).dispCnt else s.dispCnt
      dispSec := if s.preCnt + 1 = s.cfg.tpm then (displayStep s).dispSec else s.dispSec
      upArmed := if s.preCnt + 1 = s.cfg.tpm then (debounceNext s.cfg s.upArmed s.debUp).1 else s.upArmed
      debUp := if s.preCnt + 1 = s.cfg.tpm then (debounceNext s.cfg s.upArmed s.debUp).2 else s.debUp
      downArmed := if s.preCnt + 1 = s.cfg.tpm then (debounceNext s.cfg s.downArmed s.debDown).1 else s.downArmed
      debDown := if s.preCnt + 1 = s.cfg.tpm then (debounceNext s.cfg s.downArmed s.debDown).2 else s.debDown
      testArmed := if s.preCnt + 1 = s.cfg.tpm then (debounceNext s.cfg s.testArmed s.debTest).1 else s.testArmed
      debTest := if s.preCnt + 1 = s.cfg.tpm then (debounceNext s.cfg s.testArmed s.debTest).2 else s.debTest } := by
  obtain ⟨hp, h⟩ | ⟨hp, h⟩ := prescalerStep_cases s
  · rw [h, msTick_eq, displayStep_setPre]; simp only [hp, if_true]
  · rw [h]; simp only [hp, if_false]

/-- The handler of OVF, register by register (40_tick_source.md R100). -/
theorem ovfHandler_eq (s : State) :
    ovfHandler s = { s with
      cycCnt := if incr s.cfg.cycW s.cycCnt = cycleThreshold s then 0 else incr s.cfg.cycW s.cycCnt
      alarm := s.alarm || decide (incr s.cfg.cycW s.cycCnt = cycleThreshold s)
      preCnt := if s.preCnt + 1 = s.cfg.tpm then 0 else wrap s.cfg.preW (s.preCnt + 1)
      dispOn := if s.preCnt + 1 = s.cfg.tpm then (displayStep s).dispOn else s.dispOn
      dispCnt := if s.preCnt + 1 = s.cfg.tpm then (displayStep s).dispCnt else s.dispCnt
      dispSec := if s.preCnt + 1 = s.cfg.tpm then (displayStep s).dispSec else s.dispSec
      upArmed := if s.preCnt + 1 = s.cfg.tpm then (debounceNext s.cfg s.upArmed s.debUp).1 else s.upArmed
      debUp := if s.preCnt + 1 = s.cfg.tpm then (debounceNext s.cfg s.upArmed s.debUp).2 else s.debUp
      downArmed := if s.preCnt + 1 = s.cfg.tpm then (debounceNext s.cfg s.downArmed s.debDown).1 else s.downArmed
      debDown := if s.preCnt + 1 = s.cfg.tpm then (debounceNext s.cfg s.downArmed s.debDown).2 else s.debDown
      testArmed := if s.preCnt + 1 = s.cfg.tpm then (debounceNext s.cfg s.testArmed s.debTest).1 else s.testArmed
      debTest := if s.preCnt + 1 = s.cfg.tpm then (debounceNext s.cfg s.testArmed s.debTest).2 else s.debTest } := by
  rw [ovfHandler, cycleTimerStep_eq, prescalerStep_eq, displayStep_setCyc]

/-! ### The bodies of the other operations: what each may write -/

theorem captureUp_frame (s : State) :
    captureUp s = { s with
      upEvt := s.upEvt || s.upArmed, upArmed := false, debUp := if s.upArmed then 0 else s.debUp } := by
  obtain h | h := Bool.eq_false_or_eq_true s.upArmed <;> simp [captureUp, h]
  cases s; simp_all

theorem captureDown_frame (s : State) :
    captureDown s = { s with
      downEvt := s.downEvt || s.downArmed, downArmed := false, debDown := if s.downArmed then 0 else s.debDown } := by
  obtain h | h := Bool.eq_false_or_eq_true s.downArmed <;> simp [captureDown, h]
  cases s; simp_all

theorem pollTestBody_frame (t : Bit) (s : State) :
    pollTestBody t s = { s with
      testEvt := (pollTestBody t s).testEvt, testArmed := (pollTestBody t s).testArmed
      debTest := (pollTestBody t s).debTest, testPrev := t, ctrlPc := .sTsvc } := by
  unfold pollTestBody goto; dsimp only; split <;> rfl

/-- The five ways SVC_ALARM can go (44_cycle_fsm.md R140): no alarm, a step, the end of an Active phase
with and without a pending restart, and the start of one. -/
theorem svcAlarmBody_cases (s : State) :
    (s.alarm = false ∧ svcAlarmBody s = { s with ctrlPc := .sUp }) ∨
    (s.alarm = true ∧ s.phase = .active ∧ 0 < s.stepsRem ∧
      svcAlarmBody s = { s with
        alarm := s.cfg.lastStepRearm && decide (s.stepsRem - 1 = 0), stepsRem := s.stepsRem - 1
        outLog := s.outLog ++ [.step], ctrlPc := .sUp }) ∨
    (s.alarm = true ∧ s.phase = .active ∧ s.stepsRem = 0 ∧
      svcAlarmBody s = { s with
        phase := .pause, busyQ := false, alarm := s.crp, crp := false, ctrlPc := .sUp }) ∨
    (s.alarm = true ∧ s.phase = .pause ∧
      svcAlarmBody s = { startActive s with alarm := false, ctrlPc := .sUp }) := by
  by_cases ha : s.alarm = true
  · cases hp : s.phase
    · by_cases hs : 0 < s.stepsRem
      · by_cases hr : s.cfg.lastStepRearm = true ∧ s.stepsRem - 1 = 0
        · simp [svcAlarmBody, consumeAlarm, activeStep, lastStepRearm, goto, emitStep, ha, hp, hs, hr.1, hr.2]
        · have hr' : (s.cfg.lastStepRearm && decide (s.stepsRem - 1 = 0)) = false := by
            simpa using hr
          simp only [svcAlarmBody, consumeAlarm, activeStep, lastStepRearm, goto, emitStep, ha, hp, hs, hr,
            hr', if_true, if_false]
          simp
      · have hz : s.stepsRem = 0 := by omega
        obtain hc | hc := Bool.eq_false_or_eq_true s.crp <;>
          simp [svcAlarmBody, consumeAlarm, endActive, goto, ha, hp, hz, hc]
    · simp [svcAlarmBody, consumeAlarm, startActive, goto, ha, hp]
  · simp [svcAlarmBody, goto, ha]

theorem svcUpBody_frame (s : State) :
    svcUpBody s = { s with
      upEvt := false, level := (svcUpBody s).level, dispOn := (svcUpBody s).dispOn
      dispCnt := (svcUpBody s).dispCnt, dispSec := (svcUpBody s).dispSec, ctrlPc := .sDown } := by
  unfold svcUpBody goto displayRestart
  split
  · rfl
  · cases s; simp_all

theorem svcDownBody_frame (s : State) :
    svcDownBody s = { s with
      downEvt := false, level := (svcDownBody s).level, dispOn := (svcDownBody s).dispOn
      dispCnt := (svcDownBody s).dispCnt, dispSec := (svcDownBody s).dispSec, ctrlPc := .sPoll } := by
  unfold svcDownBody goto displayRestart
  split
  · rfl
  · cases s; simp_all

theorem svcTestBody_frame (s : State) :
    svcTestBody s = { s with
      testEvt := false, testMode := (svcTestBody s).testMode, dispOn := (svcTestBody s).dispOn
      dispCnt := (svcTestBody s).dispCnt, dispSec := (svcTestBody s).dispSec
      stepIv := (svcTestBody s).stepIv, crp := (svcTestBody s).crp, ctrlPc := .sRender } := by
  unfold svcTestBody toggleTest leaveTest goto displayRestart; dsimp only
  split
  · split <;> rfl
  · cases s; simp_all

theorem renderBody_frame (s : State) :
    renderBody s = { s with
      segQ := (renderBody s).segQ, renderErr := (renderBody s).renderErr, report := (renderBody s).report
      ctrlPc := .sIdle } := by
  unfold renderBody goto
  split
  · split <;> rfl
  · rfl

/-- The decoder accepts exactly the digits 0 to 9 (45_display_decoder.md R160). -/
theorem decodeDigit_isSome (tbl : SegTable) (d : Nat) : (decodeDigit tbl d).isSome = true ↔ d ≤ 9 := by
  match d with
  | 0 | 1 | 2 | 3 | 4 | 5 | 6 | 7 | 8 | 9 => simp [decodeDigit]
  | _ + 10 => simp [decodeDigit]

/-! ### What an operation can do -/

/-- The state an enabled operation leaves. -/
def effect (i : Instr) (s : State) : State :=
  match i with
  | .ovf => wake (ovfHandler s)
  | .edgeUp => wake (captureUp s)
  | .edgeDown => wake (captureDown s)
  | .svcAlarm => svcAlarmBody s
  | .svcUp => svcUpBody s
  | .svcDown => svcDownBody s
  | .pollTest t => pollTestBody t s
  | .svcTest => svcTestBody s
  | .render => renderBody s
  | .idle => idleBody s
  | .reset => { State.resetOf s.cfg with
      outLog := s.outLog, refused := s.refused, report := s.report, stream := s.stream, draws := s.draws }

/-- An operation goes on in every state: it has its effect, or it is a CTRL micro-operation out of
sequence and is refused. -/
theorem exec_cases {i : Instr} {s t : State} (h : exec i s = .next t) :
    (Enabled i s ∧ t = effect i s) ∨
    (¬ Enabled i s ∧ i.agent = .ctrl ∧ t = refuse .outOfSequence s) := by
  have gate {home : CtrlPc} {body : State → State} (hp : homePc i = some home) (ha : i.agent = .ctrl)
      (hb : effect i s = body s) (h : inSequence home body s = .next t) :
      (Enabled i s ∧ t = effect i s) ∨
      (¬ Enabled i s ∧ i.agent = .ctrl ∧ t = refuse .outOfSequence s) := by
    obtain ⟨hc, ht⟩ | ⟨hc, ht⟩ := inSequence_cases h
    · exact .inl ⟨fun p hp' => by simp_all, by rw [hb, ht]⟩
    · exact .inr ⟨fun he => hc (he _ hp), ha, ht⟩
  have free (hp : homePc i = none) (h : exec i s = .next (effect i s)) (ht : exec i s = .next t) :
      (Enabled i s ∧ t = effect i s) ∨
      (¬ Enabled i s ∧ i.agent = .ctrl ∧ t = refuse .outOfSequence s) :=
    .inl ⟨fun p hp' => by simp [hp] at hp', by simpa using ht.symm.trans h⟩
  cases i with
  | ovf => exact free rfl rfl h
  | edgeUp => exact free rfl rfl h
  | edgeDown => exact free rfl rfl h
  | svcAlarm => exact gate rfl rfl rfl h
  | svcUp => exact gate rfl rfl rfl h
  | svcDown => exact gate rfl rfl rfl h
  | pollTest l => exact gate rfl rfl rfl h
  | svcTest => exact gate rfl rfl rfl h
  | render => exact gate rfl rfl rfl h
  | idle => exact gate rfl rfl rfl h
  | reset => exact free rfl rfl h

/-- An enabled operation has its effect. -/
theorem exec_of_enabled {i : Instr} {s : State} (h : Enabled i s) : exec i s = .next (effect i s) := by
  cases i with
  | ovf => rfl
  | edgeUp => rfl
  | edgeDown => rfl
  | svcAlarm => exact inSequence_home _ (h _ rfl)
  | svcUp => exact inSequence_home _ (h _ rfl)
  | svcDown => exact inSequence_home _ (h _ rfl)
  | pollTest l => exact inSequence_home _ (h _ rfl)
  | svcTest => exact inSequence_home _ (h _ rfl)
  | render => exact inSequence_home _ (h _ rfl)
  | idle => exact inSequence_home _ (h _ rfl)
  | reset => rfl

/-! ### Fetching and stepping -/

/-- An admitted configuration takes the next operation. -/
theorem fetch_admitted {s : State} (h : s.cfg.admitted = true) : fetch s = takeNext s := if_pos h

/-- A configuration that is not admitted is refused, with nothing taken (00_scope.md R2). -/
theorem fetch_badConfig {s : State} (h : s.cfg.admitted = false) : fetch s = .reject .badConfig s := by
  simp [fetch, h]

/-- Taking an operation changes only the stream, the draws and the report. -/
theorem fetch_run {s s' : State} {i : Instr} (h : fetch s = .run i s') :
    s.cfg.admitted = true ∧ s' = { s with stream := s.stream.tail, draws := s'.draws, report := .done } := by
  unfold fetch at h
  split at h
  · refine ⟨‹_›, ?_⟩
    unfold takeNext at h
    split at h
    · cases h; simp [*]
    · split at h
      · cases h
      · split at h <;> cases h
        simp [*]
  · cases h

/-- A refused word is taken from the stream; a refused configuration leaves the state. -/
theorem fetch_reject {s s' : State} {r : Refusal} (h : fetch s = .reject r s') :
    (s.cfg.admitted = true ∧ s' = { s with stream := s.stream.tail, report := .done }) ∨
      (s.cfg.admitted = false ∧ r = .badConfig ∧ s' = s) := by
  unfold fetch at h
  split at h
  · refine .inl ⟨‹_›, ?_⟩
    unfold takeNext at h
    split at h
    · cases h
    · split at h
      · cases h; simp [*]
      · split at h <;> cases h
        simp [*]
  · cases h
    exact .inr ⟨Bool.eq_false_iff.mpr ‹_›, rfl, rfl⟩

/-- A step runs the operation taken, or records why there is none to run. -/
theorem step_cases {s t : State} (h : step s = .next t) :
    (∃ i s', fetch s = .run i s' ∧ exec i s' = .next t) ∨
      (∃ r s', fetch s = .reject r s' ∧ t = refuse r s') := by
  unfold step at h
  split at h
  · exact .inl ⟨_, _, ‹_›, h⟩
  · exact .inr ⟨_, _, ‹_›, by simpa using h.symm⟩

end Sys2Proof.Machine
end

