-- ==== Sys2Proof/Laws/PerInstr.lean ====
section
/-! SUPPORT. The family "WordForm": the word of every operation has the form of 30_encoding.md R60, said
once for each constructor. -/

namespace Sys2Proof.Laws.WordForm

/-- The fields of an operation's word pass the checks of 30_encoding.md R70 and R71, and `T` is the
operand of POLL_TEST and 0 elsewhere (R60). -/
def Statement (i : Instr) : Prop :=
  (wordFields (encode i)).wellFormed = true ∧
    (wordFields (encode i)).t = match i with
      | .pollTest t => t
      | _ => false

theorem ovf : Statement .ovf := by constructor <;> rfl
theorem edgeUp : Statement .edgeUp := by constructor <;> rfl
theorem edgeDown : Statement .edgeDown := by constructor <;> rfl
theorem svcAlarm : Statement .svcAlarm := by constructor <;> rfl
theorem svcUp : Statement .svcUp := by constructor <;> rfl
theorem svcDown : Statement .svcDown := by constructor <;> rfl
theorem pollTest (t : Bit) : Statement (.pollTest t) := by cases t <;> constructor <;> rfl
theorem svcTest : Statement .svcTest := by constructor <;> rfl
theorem render : Statement .render := by constructor <;> rfl
theorem idle : Statement .idle := by constructor <;> rfl
theorem reset : Statement .reset := by constructor <;> rfl

end Sys2Proof.Laws.WordForm
end

