-- ==== Sys2Proof/Certificates/Slice0/Obligations.lean ====
section
/-! DEFINITION. The statements for the provers. Where a docstring names a D<n> of 92_eei_decisions.md, the
behaviour is that decision of the spec; where it names a log entry, the clause is the model's choice. -/

open Sys2Proof Sys2Proof.Machine

/-! ### Encodings (30_encoding.md) -/

/-- The exact patterns of 30_encoding.md R64 (D3), written out bit by bit. -/
def Obligations.OpcodeMapWords : Prop :=
  decode 0b00000001#8 = .ok .ovf ∧ decode 0b00000010#8 = .ok .edgeUp ∧
  decode 0b00000011#8 = .ok .edgeDown ∧ decode 0b00000100#8 = .ok .svcAlarm ∧
  decode 0b00000101#8 = .ok .svcUp ∧ decode 0b00000110#8 = .ok .svcDown ∧
  decode 0b00000111#8 = .ok (.pollTest false) ∧ decode 0b00010111#8 = .ok (.pollTest true) ∧
  decode 0b00001000#8 = .ok .svcTest ∧ decode 0b00001001#8 = .ok .render ∧
  decode 0b00001010#8 = .ok .idle ∧ decode 0b00001111#8 = .ok .reset

/-- Which words name no operation, and for which reason (30_encoding.md R70, R71; D24), over the fields
`op = w[3:0]`, `T = w[4]`, `res = w[7:5]` of R60. That a reserved opcode is reported before reserved bits is
the model's choice (log 6). -/
def Obligations.ReservedWordsNameNoOperation : Prop :=
  ∀ w : OpWord,
    let op := w.toNat % 16
    let t := w.toNat / 16 % 2
    let res := w.toNat / 32
    (decode w = .error .reservedOpcode ↔ op = 0 ∨ (11 ≤ op ∧ op ≤ 14)) ∧
    (decode w = .error .reservedBits ↔
      ((1 ≤ op ∧ op ≤ 10) ∨ op = 15) ∧ (res ≠ 0 ∨ (t = 1 ∧ op ≠ 7)))

/-- Decoding the words of any list of operations gives the list back (30_encoding.md R60, R64; D3). -/
def Obligations.StreamDecodesToItsOperations : Prop :=
  ∀ is : List Instr, decodeStream (encodeStream is) = .ok is

/-- A stream of words decodes only to the operations whose words it is: every word has one meaning
(30_encoding.md R64, R73; D3). -/
def Obligations.DecodedStreamEncodesBack : Prop :=
  ∀ (ws : List OpWord) (is : List Instr), decodeStream ws = .ok is → encodeStream is = ws

/-! ### The step (00_scope.md R7, 20_memory.md R54, R55) -/

/-- When the word at the front of the stream decodes to `i`, a step is `exec i` on the state from which the
word has been taken and in which the last report is cleared (log 4). A stream that has not begun runs only
RESET (70_reset_and_hazards.md R222). -/
def Obligations.StepRunsTheDecodedOperation : Prop :=
  ∀ (s : State) (w : OpWord) (rest : List OpWord) (i : Instr),
    s.cfg.admitted = true → s.stream = w :: rest → decode w = .ok i → (s.started = true ∨ i = .reset) →
    step s = exec i { s with stream := rest, report := .done }

/-- A word that names no operation sets `refused` and changes nothing else of the block (30_encoding.md
R70, R71; D24); the reason is recorded in `report` (log 4). -/
def Obligations.RefusedWordOnlyMarksTheRun : Prop :=
  ∀ (s : State) (w : OpWord) (rest : List OpWord), s.cfg.admitted = true → s.stream = w :: rest →
    (decode w = .error .reservedOpcode →
      step s = .next { s with stream := rest, refused := true, report := .refuse .reservedOpcode }) ∧
    (decode w = .error .reservedBits →
      step s = .next { s with stream := rest, refused := true, report := .refuse .reservedBits })

/-- A stream that does not begin with RESET is refused as OutOfSequence (70_reset_and_hazards.md R222;
D25). -/
def Obligations.StreamMustBeginWithReset : Prop :=
  ∀ (s : State) (w : OpWord) (rest : List OpWord) (i : Instr),
    s.cfg.admitted = true → s.started = false → s.stream = w :: rest → decode w = .ok i → i ≠ .reset →
    step s = .next { s with stream := rest, refused := true, report := .refuse .outOfSequence }

/-- With no word listed, the step runs some operation that is enabled (20_memory.md R55, 46_main_loop.md
R171; D15, D16). Which one is a free value (log 2). -/
def Obligations.FreeChoiceIsEnabled : Prop :=
  ∀ s : State, s.cfg.admitted = true → s.stream = [] →
    ∃ i, Enabled i s ∧ (s.started = false → i = .reset) ∧
      step s = exec i { s with draws := s.draws + 1, report := .done }

/-- A configuration 00_scope.md R2 rejects is refused before any operation is taken: every step sets
`refused` and changes nothing else of the block (00_scope.md R7, 60_exceptions.md R201; D24, D30); the
reason is recorded in `report`, and the stream is kept (logs 4, 10). -/
def Obligations.UnadmittedConfigurationIsRefused : Prop :=
  ∀ s : State, s.cfg.admitted = false →
    step s = .next { s with refused := true, report := .refuse .badConfig }

/-- Nothing ends a run, in any configuration. That a refused or faulted state goes on is the model's reading
(log 4, DESIGN CHOICE) of "never final" (00_scope.md R7, D24; 46_main_loop.md R176, D1). -/
def Obligations.StepAlwaysGoesOn : Prop :=
  ∀ s : State, ∃ t, step s = .next t ∧ t.cfg = s.cfg

/-- The word placed by `withFetchWord` is the very next operation (log 3). -/
def Obligations.PlacedWordRunsNext : Prop :=
  ∀ (s : State) (i : Instr), s.cfg.admitted = true →
    step (s.withFetchWord 8 (encode i).toNat) =
      exec i { s with started := true, ctrlPc := (homePc i).getD s.ctrlPc, report := .done }

/-! ### Sequence (30_encoding.md R72, 46_main_loop.md R170) -/

/-- An operation that is enabled is never refused: it completes and leaves `refused` as it was
(30_encoding.md R72, 40_tick_source.md R105; D10, D21, D24). -/
def Obligations.EnabledOperationIsNeverRefused : Prop :=
  ∀ (i : Instr) (s : State), Enabled i s →
    ∃ t, exec i s = .next t ∧ t.refused = s.refused ∧ (∀ r, t.report = .refuse r → s.report = .refuse r)

/-- A CTRL operation away from its place in the sequence is refused and changes nothing else
(30_encoding.md R72, R70; D10, D24). -/
def Obligations.OutOfSequenceIsRefused : Prop :=
  ∀ s : State,
    let refusal := Host.Outcome.next (φ := Fault) (ρ := Refusal)
      { s with refused := true, report := .refuse .outOfSequence }
    (s.ctrlPc ≠ .sAlarm → exec .svcAlarm s = refusal) ∧
    (s.ctrlPc ≠ .sUp → exec .svcUp s = refusal) ∧
    (s.ctrlPc ≠ .sDown → exec .svcDown s = refusal) ∧
    (s.ctrlPc ≠ .sPoll → ∀ t, exec (.pollTest t) s = refusal) ∧
    (s.ctrlPc ≠ .sTsvc → exec .svcTest s = refusal) ∧
    (s.ctrlPc ≠ .sRender → exec .render s = refusal) ∧
    (s.ctrlPc ≠ .sIdle → exec .idle s = refusal)

/-- The fixed order of the sequencer (46_main_loop.md R170, D10): after each micro-operation `ctrl_pc` takes
the next value. -/
def Obligations.SequencerOrder : Prop :=
  ∀ s : State,
    (s.ctrlPc = .sAlarm → ∃ t, exec .svcAlarm s = .next t ∧ t.ctrlPc = .sUp) ∧
    (s.ctrlPc = .sUp → ∃ t, exec .svcUp s = .next t ∧ t.ctrlPc = .sDown) ∧
    (s.ctrlPc = .sDown → ∃ t, exec .svcDown s = .next t ∧ t.ctrlPc = .sPoll) ∧
    (s.ctrlPc = .sPoll → ∀ l, ∃ t, exec (.pollTest l) s = .next t ∧ t.ctrlPc = .sTsvc) ∧
    (s.ctrlPc = .sTsvc → ∃ t, exec .svcTest s = .next t ∧ t.ctrlPc = .sRender) ∧
    (s.ctrlPc = .sRender → ∃ t, exec .render s = .next t ∧ t.ctrlPc = .sIdle) ∧
    (s.ctrlPc = .sIdle → ∃ t, exec .idle s = .next t ∧ (t.ctrlPc = .sWait ∨ t.ctrlPc = .sAlarm))

/-! ### OVF (40_tick_source.md, 42_cycle_timer.md, 43_display_timeout.md, 41_input_capture.md) -/

/-- The cycle-timer part of OVF (42_cycle_timer.md R120, R121; D5, D6): increment, compare for exact equality
with the threshold, reset and raise the alarm on a match. -/
def Obligations.OvfRunsTheCycleTimer : Prop :=
  ∀ s : State,
    let interval := match s.phase with
      | .active => s.stepIv
      | .pause => if s.testMode then s.cfg.testMs else s.cfg.pauseMs
    let thr := s.cfg.tpm * interval % 2 ^ s.cfg.cycW
    let c := (s.cycCnt + 1) % 2 ^ s.cfg.cycW
    ∃ t, exec .ovf s = .next t ∧
      (c = thr → t.cycCnt = 0 ∧ t.alarm = true) ∧ (c ≠ thr → t.cycCnt = c ∧ t.alarm = s.alarm)

/-- At most one alarm is outstanding: a match while `alarm = 1` still resets the counter and leaves
`alarm = 1` (42_cycle_timer.md R122). -/
def Obligations.AlarmIsNotQueued : Prop :=
  ∀ s : State, s.alarm = true → (s.cycCnt + 1) % 2 ^ s.cfg.cycW = cycleThreshold s →
    ∃ t, exec .ovf s = .next t ∧ t.cycCnt = 0 ∧ t.alarm = true

/-- The prescaler and display parts of OVF (40_tick_source.md R101, R102, 43_display_timeout.md R131; D4,
D5): the display timer moves only on the OVF that makes an ms tick, and only while the display is on. -/
def Obligations.OvfPrescalesAndTimesTheDisplay : Prop :=
  ∀ s : State,
    let d := (s.dispCnt + 1) % 2 ^ s.cfg.dispW
    let e := (s.dispSec + 1) % 2 ^ s.cfg.dsecW
    ∃ t, exec .ovf s = .next t ∧
      t.preCnt = (if s.preCnt + 1 = s.cfg.tpm then 0 else (s.preCnt + 1) % 2 ^ s.cfg.preW) ∧
      (t.dispOn, t.dispCnt, t.dispSec) =
        if s.preCnt + 1 = s.cfg.tpm ∧ s.dispOn = true then
          if d = s.cfg.displayMs then
            if e = s.cfg.dispPeriods then (false, 0, 0) else (true, 0, e)
          else (true, d, s.dispSec)
        else (s.dispOn, s.dispCnt, s.dispSec)

/-- The re-arm part of OVF for the three buttons (41_input_capture.md R115, 40_tick_source.md R102; D4,
D5): on an ms tick a disarmed button counts, and is armed again when the count reaches DEBOUNCE_MS. -/
def Obligations.OvfRearmsTheButtons : Prop :=
  ∀ s : State,
    let after (armed : Bit) (deb : Nat) : Bit × Nat :=
      if s.preCnt + 1 = s.cfg.tpm ∧ armed = false then
        if (deb + 1) % 2 ^ s.cfg.debW = s.cfg.debounceMs then (true, 0)
        else (false, (deb + 1) % 2 ^ s.cfg.debW)
      else (armed, deb)
    ∃ t, exec .ovf s = .next t ∧
      (t.upArmed, t.debUp) = after s.upArmed s.debUp ∧
      (t.downArmed, t.debDown) = after s.downArmed s.debDown ∧
      (t.testArmed, t.debTest) = after s.testArmed s.debTest

/-- The frame of OVF and its wake: it completes in every state, writes only the timers, the alarm, the
display state and the armed flags, and takes `ctrl_pc` from S_WAIT to S_ALARM and nowhere else
(40_tick_source.md R100, R103, R105; 46_main_loop.md R174; D20, D21). -/
def Obligations.OvfFrameAndWake : Prop :=
  ∀ s : State, ∃ t, exec .ovf s = .next t ∧
    t = { s with
      cycCnt := t.cycCnt, alarm := t.alarm, preCnt := t.preCnt
      dispOn := t.dispOn, dispCnt := t.dispCnt, dispSec := t.dispSec
      upArmed := t.upArmed, debUp := t.debUp, downArmed := t.downArmed, debDown := t.debDown
      testArmed := t.testArmed, debTest := t.debTest
      ctrlPc := if s.ctrlPc = .sWait then .sAlarm else s.ctrlPc } ∧
    (s.alarm = true → t.alarm = true) ∧ (s.dispOn = false → t.dispOn = false) ∧
    (s.upArmed = true → t.upArmed = true) ∧ (s.downArmed = true → t.downArmed = true) ∧
    (s.testArmed = true → t.testArmed = true)

/-- The order of the parts of OVF does not change its result (40_tick_source.md R103): the cycle timer, the
prescaler, the parts of the ms tick it may make, and the wake at every place. -/
def Obligations.OvfPartsCommute : Prop :=
  ∀ s : State,
    prescalerStep (cycleTimerStep s) = cycleTimerStep (prescalerStep s) ∧
    wake (cycleTimerStep s) = cycleTimerStep (wake s) ∧
    wake (prescalerStep s) = prescalerStep (wake s) ∧
    wake (ovfHandler s) = ovfHandler (wake s) ∧
    debounceUp (displayStep s) = displayStep (debounceUp s) ∧
    debounceDown (displayStep s) = displayStep (debounceDown s) ∧
    debounceTest (displayStep s) = displayStep (debounceTest s) ∧
    debounceDown (debounceUp s) = debounceUp (debounceDown s) ∧
    debounceTest (debounceUp s) = debounceUp (debounceTest s) ∧
    debounceTest (debounceDown s) = debounceDown (debounceTest s)

/-- While the threshold stays and the count is below it, overflows raise a match exactly every `thr` OVFs,
the first after `thr - cyc_cnt` (42_cycle_timer.md R125). -/
def Obligations.AlarmEveryThreshold : Prop :=
  ∀ (s : State) (n : Nat),
    1 ≤ cycleThreshold s → s.cycCnt < cycleThreshold s →
    ∃ t, runOps (List.replicate n .ovf) s = .next t ∧
      t.cycCnt = (s.cycCnt + n) % cycleThreshold s ∧
      (t.alarm = true ↔ s.alarm = true ∨ cycleThreshold s ≤ s.cycCnt + n)

/-- A threshold at or below the count is missed: the next match comes after exactly
`2^CYC_W - cyc_cnt + thr` OVFs (42_cycle_timer.md R123, 70_reset_and_hazards.md R230). -/
def Obligations.MissedThresholdWaitsForTheWrap : Prop :=
  ∀ (s : State) (n : Nat),
    s.alarm = false → s.cycCnt < 2 ^ s.cfg.cycW → cycleThreshold s ≤ s.cycCnt →
    n ≤ 2 ^ s.cfg.cycW - s.cycCnt + cycleThreshold s →
    ∃ t, runOps (List.replicate n .ovf) s = .next t ∧
      (t.alarm = true ↔ n = 2 ^ s.cfg.cycW - s.cycCnt + cycleThreshold s)

/-- A disarmed button is armed again by the DEBOUNCE_MS-th ms tick and by no earlier one, under every
interleaving (41_input_capture.md R116, 20_memory.md R55). Counted in OVFs from any state of the window, it is
armed at some boundary of a run exactly if the run holds `TPM * (DEBOUNCE_MS - deb) - pre_cnt` of them; and
it is then armed at the end if no operation of the run could disarm it. -/
def Obligations.RearmAfterExactlyTheWindow : Prop :=
  ∀ (is : List Instr) (s : State), BlockInv s → Instr.reset ∉ is →
    let n := is.count Instr.ovf
    let window (deb : Nat) := s.cfg.tpm * (s.cfg.debounceMs - deb) - s.preCnt
    let armedOnce (armed : State → Bit) := ∃ k u, runOps (is.take k) s = .next u ∧ armed u = true
    ∃ t, runOps is s = .next t ∧
      (s.upArmed = false →
        (armedOnce (·.upArmed) ↔ window s.debUp ≤ n) ∧
        (Instr.edgeUp ∉ is → (t.upArmed = true ↔ window s.debUp ≤ n))) ∧
      (s.downArmed = false →
        (armedOnce (·.downArmed) ↔ window s.debDown ≤ n) ∧
        (Instr.edgeDown ∉ is → (t.downArmed = true ↔ window s.debDown ≤ n))) ∧
      (s.testArmed = false →
        (armedOnce (·.testArmed) ↔ window s.debTest ≤ n) ∧
        (Instr.pollTest false ∉ is → (t.testArmed = true ↔ window s.debTest ≤ n)))

/-- The display goes Off at the `DISP_PERIODS * DISPLAY_MS`-th ms tick after a restart, and not before, under
every interleaving in which no service consumes a button event (43_display_timeout.md R133, 20_memory.md R55):
counted in OVFs from any state of the window. -/
def Obligations.BlankAfterExactlyTheWindow : Prop :=
  ∀ (is : List Instr) (s : State), BlockInv s → s.dispOn = true → Instr.reset ∉ is →
    (∀ k i u, is[k]? = some i → runOps (is.take k) s = .next u → ¬ ServesButton i u) →
    ∃ t, runOps is s = .next t ∧
      (t.dispOn = false ↔
        s.cfg.tpm * ((s.cfg.dispPeriods - s.dispSec) * s.cfg.displayMs - s.dispCnt) - s.preCnt ≤ is.count Instr.ovf)

/-! ### Input capture (41_input_capture.md) -/

/-- EDGE_UP (41_input_capture.md R110), whole: an armed button raises its event and is disarmed with its
counter at 0, a disarmed one ignores the edge, and either wakes the sequencer; nothing else changes. -/
def Obligations.EdgeUpCaptures : Prop :=
  decode 0b00000010#8 = .ok .edgeUp ∧
  ∀ s : State,
    (s.upArmed = true → exec .edgeUp s = .next { s with
      upEvt := true, upArmed := false, debUp := 0
      ctrlPc := if s.ctrlPc = .sWait then .sAlarm else s.ctrlPc }) ∧
    (s.upArmed = false → exec .edgeUp s = .next { s with
      ctrlPc := if s.ctrlPc = .sWait then .sAlarm else s.ctrlPc })

/-- EDGE_DOWN (41_input_capture.md R111), whole. -/
def Obligations.EdgeDownCaptures : Prop :=
  decode 0b00000011#8 = .ok .edgeDown ∧
  ∀ s : State,
    (s.downArmed = true → exec .edgeDown s = .next { s with
      downEvt := true, downArmed := false, debDown := 0
      ctrlPc := if s.ctrlPc = .sWait then .sAlarm else s.ctrlPc }) ∧
    (s.downArmed = false → exec .edgeDown s = .next { s with
      ctrlPc := if s.ctrlPc = .sWait then .sAlarm else s.ctrlPc })

/-- POLL_TEST (41_input_capture.md R113; D14): a high-to-low change of an armed button raises the event and
disarms it; the previous level is updated armed or not; nothing else changes. -/
def Obligations.PollTestDetectsThePress : Prop :=
  ∀ (s : State) (l : Bit), s.ctrlPc = .sPoll →
    ((s.testPrev = true ∧ l = false ∧ s.testArmed = true) → exec (.pollTest l) s = .next { s with
      testEvt := true, testArmed := false, debTest := 0, testPrev := l, ctrlPc := .sTsvc }) ∧
    (¬ (s.testPrev = true ∧ l = false ∧ s.testArmed = true) → exec (.pollTest l) s = .next { s with
      testPrev := l, ctrlPc := .sTsvc })

/-! ### The cycle state machine and the button services (44_cycle_fsm.md) -/

/-- SVC_ALARM with no alarm pending does nothing but advance (44_cycle_fsm.md R140, corner cases). -/
def Obligations.SvcAlarmWithoutAlarm : Prop :=
  ∀ s : State, s.ctrlPc = .sAlarm → s.alarm = false →
    exec .svcAlarm s = .next { s with ctrlPc := .sUp }

/-- ActiveStep (44_cycle_fsm.md R141): one STEP, one step less. The alarm is consumed, and raised again by
the step that takes the count to 0 if LAST_STEP_REARM is set (R142, D11). Nothing else changes. -/
def Obligations.ActiveAlarmStepsTheMotor : Prop :=
  ∀ s : State, s.ctrlPc = .sAlarm → s.alarm = true → s.phase = .active → 0 < s.stepsRem →
    ∃ t, exec .svcAlarm s = .next t ∧
      t = { s with
        outLog := s.outLog ++ [.step], stepsRem := s.stepsRem - 1, alarm := t.alarm, ctrlPc := .sUp } ∧
      (t.alarm = true ↔ s.cfg.lastStepRearm = true ∧ s.stepsRem = 1)

/-- EndActive (44_cycle_fsm.md R143), whole: Pause, indicator off, and with CycleResetPending a synthetic
alarm; the direction line and everything else stay. -/
def Obligations.EndOfActivePhase : Prop :=
  ∀ s : State, s.ctrlPc = .sAlarm → s.alarm = true → s.phase = .active → s.stepsRem = 0 →
    (s.crp = true → exec .svcAlarm s = .next { s with
      phase := .pause, busyQ := false, crp := false, alarm := true, ctrlPc := .sUp }) ∧
    (s.crp = false → exec .svcAlarm s = .next { s with
      phase := .pause, busyQ := false, alarm := false, ctrlPc := .sUp })

/-- StartActive (44_cycle_fsm.md R144), with SPC and StepIntervalFor as R150 and R151 give them (D7):
StepsPerCycle and StepsRemaining from the level, StepInterval from the mode and the level, direction
inverted, indicator on; nothing else changes. Values are cut to the register's width (log 11); the two
divisions have a non-zero divisor in every admitted configuration with a level in range (R150), and with
a zero divisor the quotient is a free value (log 9). -/
def Obligations.StartOfActivePhase : Prop :=
  ∀ s : State, s.ctrlPc = .sAlarm → s.alarm = true → s.phase = .pause →
    let n := s.level * s.cfg.frs / s.cfg.stepLevels
    let dur := if s.testMode then s.cfg.testMs else s.cfg.activeMs
    ∃ t, exec .svcAlarm s = .next t ∧
      t = { s with
        alarm := false, phase := .active, spc := t.spc, stepsRem := t.stepsRem, stepIv := t.stepIv
        dirQ := !s.dirQ, busyQ := true, ctrlPc := .sUp } ∧
      t.stepsRem = t.spc ∧
      (0 < s.cfg.stepLevels → t.spc = n % 2 ^ s.cfg.stepsW) ∧
      (0 < s.cfg.stepLevels → 0 < n → t.stepIv = dur / n % 2 ^ s.cfg.siW)

/-- SVC_UP (44_cycle_fsm.md R145), whole: with an event pending the level goes up by one if the display is
on and the level is below STEP_LEVELS, and the display window restarts; with none it only advances. -/
def Obligations.SvcUpRaisesTheLevel : Prop :=
  decode 0b00000101#8 = .ok .svcUp ∧
  ∀ s : State, s.ctrlPc = .sUp →
    (s.upEvt = true → exec .svcUp s = .next { s with
      upEvt := false
      level := if s.dispOn = true ∧ s.level < s.cfg.stepLevels then (s.level + 1) % 2 ^ s.cfg.levelW else s.level
      dispOn := true, dispCnt := 0, dispSec := 0, ctrlPc := .sDown }) ∧
    (s.upEvt = false → exec .svcUp s = .next { s with ctrlPc := .sDown })

/-- SVC_DOWN (44_cycle_fsm.md R146), whole: the level goes down by one, with floor 1. -/
def Obligations.SvcDownLowersTheLevel : Prop :=
  decode 0b00000110#8 = .ok .svcDown ∧
  ∀ s : State, s.ctrlPc = .sDown →
    (s.downEvt = true → exec .svcDown s = .next { s with
      downEvt := false
      level := if s.dispOn = true ∧ 1 < s.level then s.level - 1 else s.level
      dispOn := true, dispCnt := 0, dispSec := 0, ctrlPc := .sPoll }) ∧
    (s.downEvt = false → exec .svcDown s = .next { s with ctrlPc := .sPoll })

/-- Two level events in one iteration are served up, then down; with the display off the first only turns
it on, so the level falls by one (70_reset_and_hazards.md R237). -/
def Obligations.UpAndDownWithTheDisplayOff : Prop :=
  ∀ s : State, s.ctrlPc = .sUp → s.upEvt = true → s.downEvt = true → s.dispOn = false →
    ∃ t, runOps [.svcUp, .svcDown] s = .next t ∧ t.dispOn = true ∧
      t.upEvt = false ∧ t.downEvt = false ∧
      (1 < s.level → t.level = s.level - 1) ∧ (s.level ≤ 1 → t.level = s.level)

/-- SVC_TEST on an event with test mode off (44_cycle_fsm.md R147): test mode on, display window restarted
whatever the display state, StepInterval and CycleResetPending untouched; and with no event it only
advances. -/
def Obligations.SvcTestEntersTestMode : Prop :=
  ∀ s : State, s.ctrlPc = .sTsvc →
    (s.testEvt = false → exec .svcTest s = .next { s with ctrlPc := .sRender }) ∧
    (s.testEvt = true → s.testMode = false → exec .svcTest s = .next { s with
      testEvt := false, testMode := true, dispOn := true, dispCnt := 0, dispSec := 0, ctrlPc := .sRender })

/-- SVC_TEST on an event with test mode on, and LeaveTest (44_cycle_fsm.md R147, R148; R151, D7): test mode
off, StepInterval recomputed from the normal duration and the new level, CycleResetPending set. The quotient
is cut to the register's width (log 11) and free where its divisor is 0 (log 9). -/
def Obligations.SvcTestLeavesTestMode : Prop :=
  ∀ s : State, s.ctrlPc = .sTsvc → s.testEvt = true → s.testMode = true →
    let n := s.level * s.cfg.frs / s.cfg.stepLevels
    ∃ t, exec .svcTest s = .next t ∧
      t = { s with
        testEvt := false, testMode := false, dispOn := true, dispCnt := 0, dispSec := 0
        stepIv := t.stepIv, crp := true, ctrlPc := .sRender } ∧
      (0 < s.cfg.stepLevels → 0 < n → t.stepIv = s.cfg.activeMs / n % 2 ^ s.cfg.siW)

/-- After leaving test mode, the Active phase that ends with CycleResetPending set is followed by a new
Active phase with no pause between (44_cycle_fsm.md R156(a)): two iterations with the button released and
no overflow between them. -/
def Obligations.CycleResetSkipsThePause : Prop :=
  ∀ s : State, s.ctrlPc = .sAlarm → s.alarm = true → s.phase = .active → s.stepsRem = 0 → s.crp = true →
    s.testEvt = false →
    ∃ t, runOps (iter true ++ iter true) s = .next t ∧
      t.phase = .active ∧ t.crp = false ∧ t.alarm = false ∧ t.dirQ = !s.dirQ ∧ t.busyQ = true ∧
      t.stepsRem = t.spc ∧ t.cycCnt = s.cycCnt ∧ t.outLog = s.outLog

/-! ### Display, idle, reset -/

/-- RENDER (45_display_decoder.md R160 to R165; D17, D18, D19): with the display on, the mask of the digit,
for any table; with it off, all segments dark; a digit above 9 sets `render_err`, is recorded as
fault(RenderReject) (log 4) and leaves the segments. Nothing else changes. -/
def Obligations.RenderShowsTheLevel : Prop :=
  ∀ s : State, s.ctrlPc = .sRender →
    let tbl := s.cfg.segTable
    let masks := [tbl.d0, tbl.d1, tbl.d2, tbl.d3, tbl.d4, tbl.d5, tbl.d6, tbl.d7, tbl.d8, tbl.d9]
    (s.dispOn = false → exec .render s = .next { s with segQ := 0b0000000#7, ctrlPc := .sIdle }) ∧
    (s.dispOn = true → ∀ h : s.level < masks.length,
      exec .render s = .next { s with segQ := masks[s.level], ctrlPc := .sIdle }) ∧
    (s.dispOn = true → 10 ≤ s.level → exec .render s = .next { s with
      renderErr := true, report := .fault .renderReject, ctrlPc := .sIdle })

/-- IDLE (46_main_loop.md R172; D20): the wait if nothing is pending, the next iteration otherwise; nothing
else changes. -/
def Obligations.IdleWaitsOnlyWhenNothingIsPending : Prop :=
  ∀ s : State, s.ctrlPc = .sIdle →
    ((s.alarm = false ∧ s.upEvt = false ∧ s.downEvt = false ∧ s.testEvt = false) →
      exec .idle s = .next { s with ctrlPc := .sWait }) ∧
    ((s.alarm = true ∨ s.upEvt = true ∨ s.downEvt = true ∨ s.testEvt = true) →
      exec .idle s = .next { s with ctrlPc := .sAlarm })

/-- RESET (70_reset_and_hazards.md R220, R221; D13, D25): every register goes to its reset value, `out_log`
and `refused` stay. Values are cut to the register's width (log 11); a quotient with a zero divisor is
free (log 9). The model's own fields but `started` stay (log 5). -/
def Obligations.ResetLoadsTheResetValues : Prop :=
  ∀ s : State,
    let n := s.cfg.stepLevels / 2 * s.cfg.frs / s.cfg.stepLevels
    ∃ t, exec .reset s = .next t ∧
      t = { s with
        preCnt := 0, cycCnt := 0, alarm := false, dispOn := true, dispCnt := 0, dispSec := 0
        upEvt := false, downEvt := false, testEvt := false
        upArmed := true, downArmed := true, testArmed := true, debUp := 0, debDown := 0, debTest := 0
        testPrev := true, phase := .active, stepsRem := s.cfg.frs / 2 % 2 ^ s.cfg.stepsW
        spc := t.spc, stepIv := t.stepIv, level := s.cfg.stepLevels / 2 % 2 ^ s.cfg.levelW
        testMode := false, crp := false, dirQ := false, busyQ := true, segQ := 0b0000000#7
        renderErr := false, ctrlPc := .sAlarm, started := true } ∧
      (0 < s.cfg.stepLevels → t.spc = n % 2 ^ s.cfg.stepsW) ∧
      (0 < s.cfg.stepLevels → 0 < n → t.stepIv = s.cfg.activeMs / n % 2 ^ s.cfg.siW)

/-- The output lines follow the state (30_encoding.md R69; D17, D18, D31): `seg_o` bit by bit, inverted
when the polarity is active-low, and `step_o` low at every boundary. -/
def Obligations.OutputLinesFollowTheState : Prop :=
  ∀ s : State, dirO s = s.dirQ ∧ dpO s = s.busyQ ∧ renderErrO s = s.renderErr ∧ stepO s = false ∧
    ∀ k, k < 7 → (segO s).getLsbD k = (s.segQ.getLsbD k != s.cfg.segActiveLow)

/-! ### Rules of the whole machine -/

/-- Which operation may change which register (10_state.md section 7; RESET apart). -/
def Obligations.RegisterWriters : Prop :=
  ∀ (i : Instr) (s t : State), exec i s = .next t → i ≠ .reset →
    (t.preCnt ≠ s.preCnt ∨ t.cycCnt ≠ s.cycCnt → i = .ovf) ∧
    (t.alarm ≠ s.alarm → i = .ovf ∨ i = .svcAlarm) ∧
    (t.dispOn ≠ s.dispOn ∨ t.dispCnt ≠ s.dispCnt ∨ t.dispSec ≠ s.dispSec →
      i = .ovf ∨ i = .svcUp ∨ i = .svcDown ∨ i = .svcTest) ∧
    (t.upEvt ≠ s.upEvt → i = .edgeUp ∨ i = .svcUp) ∧
    (t.downEvt ≠ s.downEvt → i = .edgeDown ∨ i = .svcDown) ∧
    (t.testEvt ≠ s.testEvt → (∃ l, i = .pollTest l) ∨ i = .svcTest) ∧
    (t.upArmed ≠ s.upArmed ∨ t.debUp ≠ s.debUp → i = .ovf ∨ i = .edgeUp) ∧
    (t.downArmed ≠ s.downArmed ∨ t.debDown ≠ s.debDown → i = .ovf ∨ i = .edgeDown) ∧
    (t.testArmed ≠ s.testArmed ∨ t.debTest ≠ s.debTest → i = .ovf ∨ ∃ l, i = .pollTest l) ∧
    (t.testPrev ≠ s.testPrev → ∃ l, i = .pollTest l) ∧
    (t.phase ≠ s.phase ∨ t.stepsRem ≠ s.stepsRem ∨ t.spc ≠ s.spc ∨ t.dirQ ≠ s.dirQ ∨ t.busyQ ≠ s.busyQ ∨
      t.outLog ≠ s.outLog → i = .svcAlarm) ∧
    (t.stepIv ≠ s.stepIv ∨ t.crp ≠ s.crp → i = .svcAlarm ∨ i = .svcTest) ∧
    (t.level ≠ s.level → i = .svcUp ∨ i = .svcDown) ∧
    (t.testMode ≠ s.testMode → i = .svcTest) ∧
    (t.segQ ≠ s.segQ ∨ t.renderErr ≠ s.renderErr → i = .render) ∧
    (t.ctrlPc ≠ s.ctrlPc → i.agent = .ctrl ∨ (i.agent = .irq ∧ s.ctrlPc = .sWait))

/-- The direction line inverts exactly at a Pause-to-Active transition, and never at Active-to-Pause
(44_cycle_fsm.md R153; RESET apart). -/
def Obligations.DirectionInvertsOnlyIntoActive : Prop :=
  ∀ (i : Instr) (s t : State), exec i s = .next t → i ≠ .reset →
    (t.dirQ = (!s.dirQ) ↔ s.phase = .pause ∧ t.phase = .active)

/-- Step accounting of one operation (44_cycle_fsm.md R141, R143, R154): at most one STEP, each counted off
`steps_rem`, none in Pause, and no Active phase ends before its count is 0. -/
def Obligations.StepsAreCountedOff : Prop :=
  ∀ (i : Instr) (s t : State), exec i s = .next t → i ≠ .reset →
    ∃ k, k ≤ 1 ∧ t.outLog = s.outLog ++ List.replicate k .step ∧
      (s.phase = .pause → k = 0) ∧
      (s.phase = .active → t.phase = .active → t.stepsRem + k = s.stepsRem) ∧
      (s.phase = .active → t.phase = .pause → s.stepsRem = 0 ∧ k = 0)

/-- An Active phase gives exactly the number of STEPs it has left, under every interleaving and whatever
happens to the level meanwhile (44_cycle_fsm.md R154): from a state of the phase to the operation that
ends it. -/
def Obligations.ActivePhaseEmitsItsSteps : Prop :=
  ∀ (is : List Instr) (i : Instr) (s u t : State),
    (∀ j ∈ is, j ≠ .reset) → i ≠ .reset →
    (∀ k v, runOps (is.take k) s = .next v → v.phase = .active) →
    runOps is s = .next u → exec i u = .next t → t.phase = .pause →
    t.outLog = s.outLog ++ List.replicate s.stepsRem .step

/-- The wait is entered only by IDLE and left only by an IRQ operation (60_exceptions.md R211) or RESET
(70_reset_and_hazards.md R220). -/
def Obligations.WaitIsEnteredByIdleAndLeftByInterrupt : Prop :=
  ∀ (i : Instr) (s t : State), exec i s = .next t →
    (s.ctrlPc ≠ .sWait → t.ctrlPc = .sWait → i = .idle) ∧
    (s.ctrlPc = .sWait → (t.ctrlPc ≠ .sWait ↔ i.agent = .irq ∨ i = .reset))

/-- The gone-wrong flags are sticky (60_exceptions.md R201; D19, D24): nothing clears `refused`, and only
RESET clears `render_err`. -/
def Obligations.GoneWrongFlagsAreSticky : Prop :=
  ∀ (i : Instr) (s t : State), exec i s = .next t →
    (s.refused = true → t.refused = true) ∧
    (s.renderErr = true → (t.renderErr = false ↔ i = .reset))

/-- In states that meet the invariant an enabled operation never makes a good state go wrong
(60_exceptions.md R201, 45_display_decoder.md R166). -/
def Obligations.EnabledOperationsStayGood : Prop :=
  ∀ (i : Instr) (s t : State), BlockInv s → Enabled i s → exec i s = .next t → s.good = true → t.good = true

/-- An OVF that makes an alarm and an IDLE in the same instant: both orders reach S_ALARM with the alarm
pending (60_exceptions.md R203(b)). -/
def Obligations.OvfAndIdleInEitherOrder : Prop :=
  ∀ s : State, s.ctrlPc = .sIdle → (s.cycCnt + 1) % 2 ^ s.cfg.cycW = cycleThreshold s →
    ∃ a b, runOps [.ovf, .idle] s = .next a ∧ runOps [.idle, .ovf] s = .next b ∧
      a.ctrlPc = .sAlarm ∧ a.alarm = true ∧ b.ctrlPc = .sAlarm ∧ b.alarm = true

/-- One whole main-loop iteration (30_encoding.md R75, D10; 46_main_loop.md R170, R172): it is in sequence
from S_ALARM, serves every button event, and ends in the wait unless an alarm is still pending. No counter
counts in it; the display window restarts if it serves an event, and the re-arm counter of the test button if
it sees a press. -/
def Obligations.IterationServesEveryEvent : Prop :=
  ∀ (s : State) (l : Bit), s.ctrlPc = .sAlarm →
    let press : Bit := s.testPrev && !l && s.testArmed
    ∃ t, runOps (iter l) s = .next t ∧ t.refused = s.refused ∧
      t.upEvt = false ∧ t.downEvt = false ∧ t.testEvt = false ∧
      t.ctrlPc = (if t.alarm = true then .sAlarm else .sWait) ∧
      t.cycCnt = s.cycCnt ∧ t.preCnt = s.preCnt ∧ t.testPrev = l ∧
      t.debUp = s.debUp ∧ t.debDown = s.debDown ∧ t.debTest = (if press then 0 else s.debTest) ∧
      (t.dispOn, t.dispCnt, t.dispSec) =
        if s.upEvt || s.downEvt || s.testEvt || press then (true, 0, 0) else (s.dispOn, s.dispCnt, s.dispSec)

/-- On a fair run the sequencer serves the alarm again and again, however the interrupts fall
(46_main_loop.md R171, R174, R175; D34). -/
def Obligations.FairRunsServeTheAlarm : Prop :=
  ∀ (states : Nat → State) (ops : Nat → Instr), FairRun states ops →
    ∀ n, ∃ m, n ≤ m ∧ ops m = .svcAlarm ∧ (states m).ctrlPc = .sAlarm

/-! ### The invariant (10_state.md section 9) -/

/-- The invariant holds at `State.reset`. -/
def Obligations.InvariantAtReset : Prop := BlockInv State.reset

/-- The invariant holds after RESET in every admitted configuration with two level steps or more; with one
it does not, since LEVEL_INIT is then 0 (log 9). -/
def Obligations.InvariantAfterEveryReset : Prop :=
  ∀ c : Config, c.admitted = true → 2 ≤ c.stepLevels → BlockInv (State.resetOf c)

/-- Every step keeps the invariant: under every word stream, every free choice and every admitted
configuration with two level steps or more. -/
def Obligations.EveryStepKeepsTheInvariant : Prop :=
  ∀ s t : State, BlockInv s → step s = .next t → BlockInv t
end

