-- ==== Sys2Proof/Tests/Slice0.lean ====
section
/-! SUPPORT. The model's own tests. Expected results are those of the rules, or of the vectors of
95_test_vectors.md that a test names; and for each statement with hypotheses a state that meets them. -/

namespace Sys2Proof.Tests

open Sys2Proof.Machine

/-- The state an outcome carries. -/
def after (o : Host.Outcome State Fault Refusal) : Option State :=
  match o with
  | .next t => some t
  | .fault _ => none
  | .refused _ => none

/-- The reset state with the sequencer at `p`. -/
def at_ (p : CtrlPc) : State := { State.reset with ctrlPc := p }

/-! ### Admitted configurations (00_scope.md R2): one ill-formed configuration for each bound -/

theorem test_reference_admitted : Config.reference.admitted = true := by decide
theorem test_reject_tpm : { Config.reference with tpm := 0 }.admitted = false := by decide
theorem test_reject_no_levels : { Config.reference with stepLevels := 0 }.admitted = false := by decide
theorem test_reject_ten_levels : { Config.reference with stepLevels := 10 }.admitted = false := by decide
theorem test_reject_frs : { Config.reference with frs := 7 }.admitted = false := by decide
theorem test_reject_active : { Config.reference with activeMs := 0 }.admitted = false := by decide
theorem test_reject_pause : { Config.reference with pauseMs := 0 }.admitted = false := by decide
theorem test_reject_test : { Config.reference with testMs := 0 }.admitted = false := by decide
theorem test_reject_debounce : { Config.reference with debounceMs := 0 }.admitted = false := by decide
theorem test_reject_display : { Config.reference with displayMs := 0 }.admitted = false := by decide
theorem test_reject_periods : { Config.reference with dispPeriods := 0 }.admitted = false := by decide
theorem test_reject_cycW : { Config.reference with cycW := 22 }.admitted = false := by decide
theorem test_reject_stepsW : { Config.reference with stepsW := 10 }.admitted = false := by decide
theorem test_reject_product :
    { Config.reference with frs := 2 ^ 29, stepsW := 30 }.admitted = false := by decide
theorem test_reject_debW : { Config.reference with debW := 7 }.admitted = false := by decide
theorem test_reject_dispW : { Config.reference with dispW := 12 }.admitted = false := by decide
theorem test_reject_dsecW : { Config.reference with dsecW := 3 }.admitted = false := by decide
theorem test_reject_preW : { Config.reference with preW := 2 }.admitted = false := by decide
theorem test_reject_levelW : { Config.reference with levelW := 3 }.admitted = false := by decide

/-- 00_scope.md R3: the reference configuration divides FRS by STEP_LEVELS. -/
theorem test_reference_divides : Config.reference.frs % Config.reference.stepLevels = 0 := by decide

/-! ### Words (30_encoding.md R60, R64, R70, R71; V30.1 to V30.4, V30.7) -/

theorem test_reject_opcode : ({ op := 11, t := false, res := 0 } : WordFields).opAssigned = false := by decide
theorem test_reject_res : ({ op := 1, t := false, res := 1 } : WordFields).resClear = false := by decide
theorem test_reject_t : ({ op := 4, t := true, res := 0 } : WordFields).tAllowed = false := by decide
theorem test_wellFormed_word : ({ op := 7, t := true, res := 0 } : WordFields).wellFormed = true := by decide
theorem test_decode_ovf : decode 0b00000001#8 = .ok .ovf := by decide
theorem test_decode_edgeUp : decode 0b00000010#8 = .ok .edgeUp := by decide
theorem test_decode_edgeDown : decode 0b00000011#8 = .ok .edgeDown := by decide
theorem test_decode_svcAlarm : decode 0b00000100#8 = .ok .svcAlarm := by decide
theorem test_decode_svcUp : decode 0b00000101#8 = .ok .svcUp := by decide
theorem test_decode_svcDown : decode 0b00000110#8 = .ok .svcDown := by decide
theorem test_decode_poll_pressed : decode 0b00000111#8 = .ok (.pollTest false) := by decide
theorem test_decode_poll_released : decode 0b00010111#8 = .ok (.pollTest true) := by decide
theorem test_decode_svcTest : decode 0b00001000#8 = .ok .svcTest := by decide
theorem test_decode_render : decode 0b00001001#8 = .ok .render := by decide
theorem test_decode_idle : decode 0b00001010#8 = .ok .idle := by decide
theorem test_decode_reset : decode 0b00001111#8 = .ok .reset := by decide
theorem test_decode_zero : decode 0x00#8 = .error .reservedOpcode := by decide
theorem test_decode_0E : decode 0x0E#8 = .error .reservedOpcode := by decide
theorem test_decode_21 : decode 0x21#8 = .error .reservedBits := by decide
theorem test_decode_14 : decode 0x14#8 = .error .reservedBits := by decide
theorem test_iterWords : iterWords true = [0x04#8, 0x05#8, 0x06#8, 0x17#8, 0x08#8, 0x09#8, 0x0A#8] := by decide
theorem test_tableWord : decodeTableWord 8 0x17 = some (.pollTest true) := by decide
theorem test_ctrlPcCode : ctrlPcCode .sWait = 0b111#3 := by decide

/-! ### Stepping (V30.1, V30.5, V30.6, V30.8; 70_reset_and_hazards.md R222) -/

theorem test_step_reserved :
    (after (step { State.reset with stream := [0x00#8] })).map (fun t => (t.refused, t.report, t.ctrlPc)) =
      some (true, .refuse .reservedOpcode, .sAlarm) := by decide
theorem test_step_outOfSequence :
    (after (step { State.reset with stream := [0x05#8] })).map (fun t => (t.refused, t.report)) =
      some (true, .refuse .outOfSequence) := by decide
theorem test_step_first_word :
    (after (step { State.powerUp Config.reference with stream := [0x01#8] })).map (fun t => (t.refused, t.cycCnt)) =
      some (true, 0) := by decide
theorem test_step_powerUp_reset :
    (after (step { State.powerUp Config.reference with stream := [0x0F#8] })).map (fun t => (t.refused, t.started)) =
      some (false, true) := by decide
theorem test_step_placed :
    (after (step (State.reset.withFetchWord 8 0x09))).map (fun t => (t.segQ, t.ctrlPc)) =
      some (0x66#7, .sIdle) := by decide

/-- 60_exceptions.md R201: a configuration R2 rejects is refused before any step; 00_scope.md R7: `refused`
is set. -/
theorem test_step_badConfig :
    (after (step { State.reset with cfg := { Config.reference with dsecW := 3 }, stream := [0x01#8] })).map
      (fun t => (t.refused, t.report, t.good, t.cycCnt, t.stream)) =
      some (true, .refuse .badConfig, false, 0, [0x01#8]) := by decide

/-! ### Operations: the vectors V40 to V70 -/

/-- V40.2. -/
theorem test_ovf_msTick :
    (after (exec .ovf { State.reset with preCnt := 7 })).map (fun t => (t.preCnt, t.dispCnt, t.cycCnt)) =
      some (0, 1, 1) := by decide
/-- V42.9: a zero threshold matches only at the wrap. -/
theorem test_ovf_wrap :
    (after (exec .ovf { State.reset with stepIv := 0, cycCnt := 2 ^ 32 - 1 })).map (fun t => (t.cycCnt, t.alarm)) =
      some (0, true) := by decide
/-- V41.1, with the wake of 46_main_loop.md R174. -/
theorem test_edgeUp :
    (after (exec .edgeUp (at_ .sWait))).map (fun t => (t.upEvt, t.upArmed, t.debUp, t.ctrlPc)) =
      some (true, false, 0, .sAlarm) := by decide
/-- V41.2. -/
theorem test_edgeUp_bounce :
    (after (exec .edgeUp { State.reset with upArmed := false, debUp := 57 })).map (fun t => (t.upEvt, t.debUp)) =
      some (false, 57) := by decide
/-- V41.3. -/
theorem test_edgeDown_coalesced :
    (after (exec .edgeDown { State.reset with downEvt := true })).map (fun t => (t.downEvt, t.downArmed)) =
      some (true, false) := by decide
/-- V44.3: the last step raises the alarm again. -/
theorem test_svcAlarm_last_step :
    (after (exec .svcAlarm { State.reset with alarm := true, stepsRem := 1 })).map
      (fun t => (t.outLog, t.stepsRem, t.alarm)) = some ([.step], 0, true) := by decide
/-- V44.5. -/
theorem test_svcAlarm_start :
    (after (exec .svcAlarm { State.reset with
      alarm := true, phase := .pause, busyQ := false, stepsRem := 0, level := 7 })).map
      (fun t => (t.spc, t.stepsRem, t.stepIv, t.dirQ, t.busyQ)) = some (1400, 1400, 642, true, true) := by decide
/-- V44.6. -/
theorem test_svcUp_top :
    (after (exec .svcUp { at_ .sUp with upEvt := true, level := 8, dispCnt := 5 })).map
      (fun t => (t.level, t.upEvt, t.dispCnt)) = some (8, false, 0) := by decide
/-- V44.8. -/
theorem test_svcUp_display_off :
    (after (exec .svcUp { at_ .sUp with upEvt := true, dispOn := false })).map (fun t => (t.level, t.dispOn)) =
      some (4, true) := by decide
/-- V44.7. -/
theorem test_svcDown_floor :
    (after (exec .svcDown { at_ .sDown with downEvt := true, level := 1 })).map (fun t => (t.level, t.downEvt)) =
      some (1, false) := by decide
/-- V41.9. -/
theorem test_poll_press :
    (after (exec (.pollTest false) (at_ .sPoll))).map (fun t => (t.testEvt, t.testArmed, t.testPrev)) =
      some (true, false, false) := by decide
/-- V41.11: an edge is consumed while disarmed. -/
theorem test_poll_disarmed :
    (after (exec (.pollTest false) { at_ .sPoll with testArmed := false })).map (fun t => (t.testEvt, t.testPrev)) =
      some (false, false) := by decide
/-- V44.11. -/
theorem test_svcTest_enter :
    (after (exec .svcTest { at_ .sTsvc with testEvt := true, dispOn := false })).map
      (fun t => (t.testMode, t.dispOn, t.stepIv, t.crp)) = some (true, true, 1125, false) := by decide
/-- V44.12. -/
theorem test_svcTest_leave :
    (after (exec .svcTest { at_ .sTsvc with
      testEvt := true, testMode := true, phase := .pause, level := 2, stepIv := 20 })).map
      (fun t => (t.testMode, t.stepIv, t.crp)) = some (false, 2250, true) := by decide
/-- V45.5. -/
theorem test_render_activeLow :
    (after (exec .render { at_ .sRender with
      level := 1, cfg := { Config.reference with segActiveLow := true } })).map (fun t => (t.segQ, segO t)) =
      some (0x06#7, 0x79#7) := by decide
/-- V45.6. -/
theorem test_render_reject :
    (after (exec .render { at_ .sRender with level := 12, segQ := 0x66#7 })).map
      (fun t => (t.segQ, t.renderErr, t.report)) = some (0x66#7, true, .fault .renderReject) := by decide
/-- V46.1. -/
theorem test_idle_wait : (after (exec .idle (at_ .sIdle))).map (·.ctrlPc) = some .sWait := by decide
/-- V46.3. -/
theorem test_idle_pending :
    (after (exec .idle { at_ .sIdle with upEvt := true })).map (·.ctrlPc) = some .sAlarm := by decide
/-- V70.1. -/
theorem test_reset_keeps_log :
    (after (exec .reset { at_ .sWait with outLog := [.step, .step], renderErr := true, refused := true })).map
      (fun t => (t.outLog, t.renderErr, t.refused, t.ctrlPc)) = some ([.step, .step], false, true, .sAlarm) := by decide
/-- 70_reset_and_hazards.md R221, reference values. -/
theorem test_reset_values :
    (State.reset.level, State.reset.stepsRem, State.reset.spc, State.reset.stepIv) = (4, 800, 800, 1125) := by decide

/-! ### Witnesses: states that meet the hypotheses of the statements -/

/-- A state of the first Active phase with every button disarmed, one OVF before an ms tick. -/
def disarmed : State :=
  { State.reset with
    preCnt := 7, upArmed := false, downArmed := false, testArmed := false
    debUp := 0, debDown := 199, debTest := 57, dispCnt := 4999, dispSec := 7 }

theorem disarmed_blockInv : BlockInv disarmed where
  admitted := by decide
  two_levels := by decide
  level_pos := by decide
  level_le := by decide
  pre_lt := by decide
  cyc_lt := by decide
  disp_cnt_lt := by decide
  disp_sec_lt := by decide
  disp_off := by decide
  up := ⟨by decide, by decide⟩
  down := ⟨by decide, by decide⟩
  test := ⟨by decide, by decide⟩
  busy_iff := by decide
  pause_done := by decide
  steps_le := by decide
  spc_pos := by decide
  spc_le := by decide
  threshold_fits := by decide
  step_iv_lt := by decide
  test_evt := by decide
  no_render_err := by decide

theorem witness_DecodedStreamEncodesBack :
    decodeStream [0x01#8, 0x17#8] = .ok [.ovf, .pollTest true] := by rfl

theorem witness_StepRunsTheDecodedOperation :
    (∃ (s : State) (w : OpWord) (i : Instr), s.cfg.admitted = true ∧ s.stream = [w] ∧ decode w = .ok i ∧
      s.started = true) ∧
    (∃ (s : State) (w : OpWord), s.cfg.admitted = true ∧ s.stream = [w] ∧ decode w = .ok .reset ∧
      s.started = false) :=
  ⟨⟨{ State.reset with stream := [0x04#8] }, 0x04#8, .svcAlarm, by decide⟩,
   ⟨{ State.powerUp Config.reference with stream := [0x0F#8] }, 0x0F#8, by decide⟩⟩

theorem witness_RefusedWordOnlyMarksTheRun :
    (∃ (s : State) (w : OpWord), s.cfg.admitted = true ∧ s.stream = [w] ∧ decode w = .error .reservedOpcode) ∧
    (∃ (s : State) (w : OpWord), s.cfg.admitted = true ∧ s.stream = [w] ∧ decode w = .error .reservedBits) :=
  ⟨⟨{ State.reset with stream := [0x0B#8] }, 0x0B#8, by decide⟩,
   ⟨{ State.reset with stream := [0x11#8] }, 0x11#8, by decide⟩⟩

theorem witness_StreamMustBeginWithReset :
    ∃ (s : State) (w : OpWord) (i : Instr), s.cfg.admitted = true ∧ s.started = false ∧ s.stream = [w] ∧
      decode w = .ok i ∧ i ≠ .reset :=
  ⟨{ State.powerUp Config.reference with stream := [0x01#8] }, 0x01#8, .ovf, by decide⟩

theorem witness_FreeChoiceIsEnabled :
    (∃ s : State, s.cfg.admitted = true ∧ s.stream = [] ∧ s.started = true) ∧
    (∃ s : State, s.cfg.admitted = true ∧ s.stream = [] ∧ s.started = false) :=
  ⟨⟨State.reset, by decide, rfl, rfl⟩, ⟨State.powerUp Config.reference, by decide, rfl, rfl⟩⟩

theorem witness_UnadmittedConfigurationIsRefused : ∃ s : State, s.cfg.admitted = false :=
  ⟨{ State.reset with cfg := { Config.reference with dsecW := 3 } }, by decide⟩

theorem witness_PlacedWordRunsNext : ∃ s : State, s.cfg.admitted = true := ⟨State.reset, by decide⟩

theorem witness_EnabledOperationIsNeverRefused : ∀ i, ∃ s, Enabled i s := by
  intro i
  refine ⟨at_ ((homePc i).getD .sAlarm), fun p hp => ?_⟩
  simp [at_, hp]

theorem witness_OutOfSequenceIsRefused :
    ∃ s : State, s.ctrlPc ≠ .sAlarm ∧ s.ctrlPc ≠ .sUp ∧ s.ctrlPc ≠ .sDown ∧ s.ctrlPc ≠ .sPoll ∧
      s.ctrlPc ≠ .sTsvc ∧ s.ctrlPc ≠ .sRender ∧ s.ctrlPc ≠ .sIdle :=
  ⟨at_ .sWait, by decide⟩

/-- For SequencerOrder, SvcUpRaisesTheLevel and the other statements at one place of the sequence. -/
theorem witness_SequencerOrder : ∀ p : CtrlPc, ∃ s : State, s.ctrlPc = p := fun p => ⟨at_ p, rfl⟩

theorem witness_AlarmIsNotQueued :
    ∃ s : State, s.alarm = true ∧ (s.cycCnt + 1) % 2 ^ s.cfg.cycW = cycleThreshold s :=
  ⟨{ State.reset with alarm := true, cycCnt := 8999 }, by decide⟩

/-- At the last count before the match, and with the smallest threshold. -/
theorem witness_AlarmEveryThreshold :
    (∃ s : State, 1 ≤ cycleThreshold s ∧ s.cycCnt < cycleThreshold s ∧ s.cycCnt + 1 = cycleThreshold s) ∧
    (∃ s : State, 1 = cycleThreshold s ∧ s.cycCnt < cycleThreshold s) :=
  ⟨⟨{ State.reset with cycCnt := 8999 }, by decide⟩,
   ⟨{ State.reset with cfg := { Config.reference with tpm := 1 }, stepIv := 1 }, by decide⟩⟩

/-- At the threshold, at the largest count, and with a zero threshold; at the first and the last `n`. -/
theorem witness_MissedThresholdWaitsForTheWrap :
    ∀ s ∈ [{ State.reset with cycCnt := 9000 }, { State.reset with cycCnt := 2 ^ 32 - 1 },
        { State.reset with cycCnt := 0, stepIv := 0 }],
      s.alarm = false ∧ s.cycCnt < 2 ^ s.cfg.cycW ∧ cycleThreshold s ≤ s.cycCnt ∧
        0 ≤ 2 ^ s.cfg.cycW - s.cycCnt + cycleThreshold s := by decide

/-- A run with CTRL steps, a refused word and a poll between its overflows. -/
def mixed : List Instr := [.svcAlarm, .ovf, .svcUp, .idle, .svcDown, .ovf, .pollTest true]

theorem witness_RearmAfterExactlyTheWindow :
    BlockInv disarmed ∧ disarmed.upArmed = false ∧ disarmed.downArmed = false ∧ disarmed.testArmed = false ∧
      Instr.reset ∉ mixed ∧ Instr.edgeUp ∉ mixed ∧ Instr.edgeDown ∉ mixed ∧ Instr.pollTest false ∉ mixed :=
  ⟨disarmed_blockInv, by decide⟩

theorem witness_BlankAfterExactlyTheWindow :
    BlockInv disarmed ∧ disarmed.dispOn = true ∧ Instr.reset ∉ mixed ∧
      ∀ k i u, mixed[k]? = some i → runOps (mixed.take k) disarmed = .next u → ¬ ServesButton i u := by
  refine ⟨disarmed_blockInv, by decide, by decide, fun k i u hi hu => ?_⟩
  match k with
  | 0 | 1 | 2 | 3 | 4 | 5 | 6 => cases hi; cases hu; simp only [ServesButton]; decide
  | _ + 7 => simp [mixed] at hi

theorem witness_EdgeUpCaptures : (∃ s : State, s.upArmed = true) ∧ (∃ s : State, s.upArmed = false) :=
  ⟨⟨State.reset, rfl⟩, ⟨disarmed, rfl⟩⟩

theorem witness_EdgeDownCaptures : (∃ s : State, s.downArmed = true) ∧ (∃ s : State, s.downArmed = false) :=
  ⟨⟨State.reset, rfl⟩, ⟨disarmed, rfl⟩⟩

theorem witness_PollTestDetectsThePress :
    (∃ (s : State) (l : Bit), s.ctrlPc = .sPoll ∧ s.testPrev = true ∧ l = false ∧ s.testArmed = true) ∧
    (∃ (s : State) (l : Bit), s.ctrlPc = .sPoll ∧ ¬ (s.testPrev = true ∧ l = false ∧ s.testArmed = true)) :=
  ⟨⟨at_ .sPoll, false, by decide⟩, ⟨at_ .sPoll, true, by decide⟩⟩

theorem witness_SvcAlarmWithoutAlarm : ∃ s : State, s.ctrlPc = .sAlarm ∧ s.alarm = false :=
  ⟨State.reset, by decide⟩

theorem witness_ActiveAlarmStepsTheMotor :
    ∃ s : State, s.ctrlPc = .sAlarm ∧ s.alarm = true ∧ s.phase = .active ∧ 0 < s.stepsRem ∧ s.stepsRem = 1 :=
  ⟨{ State.reset with alarm := true, stepsRem := 1 }, by decide⟩

theorem witness_EndOfActivePhase : ∀ c : Bit,
    ∃ s : State, s.ctrlPc = .sAlarm ∧ s.alarm = true ∧ s.phase = .active ∧ s.stepsRem = 0 ∧ s.crp = c :=
  fun c => ⟨{ State.reset with alarm := true, stepsRem := 0, crp := c }, rfl, rfl, rfl, rfl, rfl⟩

theorem witness_StartOfActivePhase : ∀ l ∈ [1, 8],
    ∃ s : State, s.ctrlPc = .sAlarm ∧ s.alarm = true ∧ s.phase = .pause ∧ 0 < s.cfg.stepLevels ∧
      0 < s.level * s.cfg.frs / s.cfg.stepLevels ∧ s.level = l := by
  intro l hl
  refine ⟨{ State.reset with alarm := true, phase := .pause, level := l }, rfl, rfl, rfl, ?_⟩
  revert l; decide

theorem witness_SvcUpRaisesTheLevel : ∀ e : Bit, ∃ s : State, s.ctrlPc = .sUp ∧ s.upEvt = e :=
  fun e => ⟨{ at_ .sUp with upEvt := e }, rfl, rfl⟩

theorem witness_SvcDownLowersTheLevel : ∀ e : Bit, ∃ s : State, s.ctrlPc = .sDown ∧ s.downEvt = e :=
  fun e => ⟨{ at_ .sDown with downEvt := e }, rfl, rfl⟩

theorem witness_UpAndDownWithTheDisplayOff : ∀ l ∈ [1, 2],
    ∃ s : State, s.ctrlPc = .sUp ∧ s.upEvt = true ∧ s.downEvt = true ∧ s.dispOn = false ∧ s.level = l :=
  fun l _ => ⟨{ at_ .sUp with upEvt := true, downEvt := true, dispOn := false, level := l }, rfl, rfl, rfl, rfl, rfl⟩

theorem witness_SvcTestEntersTestMode :
    (∃ s : State, s.ctrlPc = .sTsvc ∧ s.testEvt = false) ∧
    (∃ s : State, s.ctrlPc = .sTsvc ∧ s.testEvt = true ∧ s.testMode = false) :=
  ⟨⟨at_ .sTsvc, by decide⟩, ⟨{ at_ .sTsvc with testEvt := true }, by decide⟩⟩

theorem witness_SvcTestLeavesTestMode :
    ∃ s : State, s.ctrlPc = .sTsvc ∧ s.testEvt = true ∧ s.testMode = true ∧ 0 < s.cfg.stepLevels ∧
      0 < s.level * s.cfg.frs / s.cfg.stepLevels :=
  ⟨{ at_ .sTsvc with testEvt := true, testMode := true }, by decide⟩

theorem witness_CycleResetSkipsThePause :
    ∃ s : State, s.ctrlPc = .sAlarm ∧ s.alarm = true ∧ s.phase = .active ∧ s.stepsRem = 0 ∧ s.crp = true ∧
      s.testEvt = false :=
  ⟨{ State.reset with alarm := true, stepsRem := 0, crp := true }, by decide⟩

theorem witness_RenderShowsTheLevel :
    (∃ s : State, s.ctrlPc = .sRender ∧ s.dispOn = false) ∧
    (∀ l ∈ [0, 9, 10], ∃ s : State, s.ctrlPc = .sRender ∧ s.dispOn = true ∧ s.level = l) :=
  ⟨⟨{ at_ .sRender with dispOn := false }, by decide⟩,
   fun l _ => ⟨{ at_ .sRender with level := l }, rfl, rfl, rfl⟩⟩

theorem witness_IdleWaitsOnlyWhenNothingIsPending :
    (∃ s : State, s.ctrlPc = .sIdle ∧ s.alarm = false ∧ s.upEvt = false ∧ s.downEvt = false ∧ s.testEvt = false) ∧
    (∃ s : State, s.ctrlPc = .sIdle ∧
      (s.alarm = true ∨ s.upEvt = true ∨ s.downEvt = true ∨ s.testEvt = true)) :=
  ⟨⟨at_ .sIdle, by decide⟩, ⟨{ at_ .sIdle with downEvt := true }, by decide⟩⟩

theorem witness_ResetLoadsTheResetValues :
    ∃ s : State, 0 < s.cfg.stepLevels ∧ 0 < s.cfg.stepLevels / 2 * s.cfg.frs / s.cfg.stepLevels :=
  ⟨State.reset, by decide⟩

/-- For RegisterWriters, WaitIsEnteredByIdleAndLeftByInterrupt and EveryStepKeepsTheInvariant as well: an
operation that goes on, from a state that meets the invariant. -/
theorem witness_EnabledOperationsStayGood :
    BlockInv disarmed ∧ Enabled .svcAlarm disarmed ∧ disarmed.good = true ∧
      ∃ t, exec .svcAlarm disarmed = .next t ∧ Instr.svcAlarm ≠ .reset :=
  ⟨disarmed_blockInv, by intro p hp; simp [homePc] at hp; subst hp; rfl, by decide, _, rfl, by decide⟩

theorem witness_EveryStepKeepsTheInvariant : ∃ t, step { disarmed with stream := [0x01#8] } = .next t :=
  ⟨_, rfl⟩

theorem witness_InvariantAfterEveryReset : ∃ c : Config, c.admitted = true ∧ c.stepLevels = 2 :=
  ⟨{ Config.reference with stepLevels := 2 }, by decide⟩

/-- A Pause-to-Active transition, for DirectionInvertsOnlyIntoActive and the Pause clause of
StepsAreCountedOff. -/
theorem witness_DirectionInvertsOnlyIntoActive :
    ∃ s t : State, exec .svcAlarm s = .next t ∧ s.phase = .pause ∧ t.phase = .active :=
  ⟨{ State.reset with alarm := true, phase := .pause, stepsRem := 0 }, _, rfl, rfl, rfl⟩

/-- A step inside an Active phase, and the end of one. -/
theorem witness_StepsAreCountedOff :
    (∃ s t : State, exec .svcAlarm s = .next t ∧ s.phase = .active ∧ t.phase = .active ∧ s.stepsRem = 1) ∧
    (∃ s t : State, exec .svcAlarm s = .next t ∧ s.phase = .active ∧ t.phase = .pause) :=
  ⟨⟨{ State.reset with alarm := true, stepsRem := 1 }, _, rfl, rfl, rfl, rfl⟩,
   ⟨{ State.reset with alarm := true, stepsRem := 0 }, _, rfl, rfl, rfl⟩⟩

/-- The last alarm of an Active phase, after one operation of the phase. -/
theorem witness_ActivePhaseEmitsItsSteps :
    ∃ s u t : State, (∀ k v, runOps (([.edgeUp] : List Instr).take k) s = .next v → v.phase = .active) ∧
      runOps [.edgeUp] s = .next u ∧ exec .svcAlarm u = .next t ∧ t.phase = .pause := by
  refine ⟨{ State.reset with alarm := true, stepsRem := 0 }, _, _, fun k v h => ?_, rfl, rfl, rfl⟩
  cases k with
  | zero => cases h; rfl
  | succ k => simp only [List.take_succ_cons, List.take_nil] at h; cases h; rfl

theorem witness_WaitIsEnteredByIdleAndLeftByInterrupt :
    (∃ s t : State, exec .idle s = .next t ∧ s.ctrlPc ≠ .sWait ∧ t.ctrlPc = .sWait) ∧
    (∃ s t : State, exec .edgeUp s = .next t ∧ s.ctrlPc = .sWait) :=
  ⟨⟨at_ .sIdle, _, rfl, by decide, rfl⟩, ⟨at_ .sWait, _, rfl, rfl⟩⟩

theorem witness_GoneWrongFlagsAreSticky :
    ∃ s t : State, exec .idle s = .next t ∧ s.refused = true ∧ s.renderErr = true :=
  ⟨{ at_ .sIdle with refused := true, renderErr := true }, _, rfl, rfl, rfl⟩

theorem witness_OvfAndIdleInEitherOrder :
    ∃ s : State, s.ctrlPc = .sIdle ∧ (s.cycCnt + 1) % 2 ^ s.cfg.cycW = cycleThreshold s :=
  ⟨{ at_ .sIdle with cycCnt := 8999 }, by decide⟩

/-! ### A fair run, for FairRunsServeTheAlarm: one iteration, one overflow, for ever -/

/-- The `n`-th operation of the run. -/
def fairOps (n : Nat) : Instr :=
  match n % 8 with
  | 0 => .svcAlarm
  | 1 => .svcUp
  | 2 => .svcDown
  | 3 => .pollTest true
  | 4 => .svcTest
  | 5 => .render
  | 6 => .idle
  | _ => .ovf

/-- The state at the `n`-th boundary of the run. -/
def fairStates : Nat → State
  | 0 => State.reset
  | n + 1 => effect (fairOps n) (fairStates n)

/-- Where the sequencer stands at each boundary of the run. -/
theorem fairStates_pc (n : Nat) : ∀ p, homePc (fairOps n) = some p → (fairStates n).ctrlPc = p := by
  have h : ∀ k, (fairStates (8 * k)).ctrlPc = .sAlarm → ∀ j < 8,
      ∀ p, homePc (fairOps (8 * k + j)) = some p → (fairStates (8 * k + j)).ctrlPc = p := by
    intro k h0 j hj p hp
    have hop : fairOps (8 * k + j) = fairOps j := by simp [fairOps, Nat.add_mod]
    rw [hop] at hp
    have hs : ∀ m, fairStates (8 * k + (m + 1)) = effect (fairOps (8 * k + m)) (fairStates (8 * k + m)) :=
      fun _ => rfl
    have ho : ∀ m, m < 8 → fairOps (8 * k + m) = fairOps m := fun m _ => by simp [fairOps, Nat.add_mod]
    interval_cases j <;> simp [fairOps, homePc] at hp <;> subst hp
    · simpa using h0
    all_goals rw [hs, ho _ (by omega)]
    · exact (goto_ctrlPc _ _)
    · exact (goto_ctrlPc _ _)
    · exact (goto_ctrlPc _ _)
    · exact (goto_ctrlPc _ _)
    · exact (goto_ctrlPc _ _)
    · exact (goto_ctrlPc _ _)
  have h0 : ∀ k, (fairStates (8 * k)).ctrlPc = .sAlarm := by
    intro k
    induction k with
    | zero => rfl
    | succ k ih =>
      have h7 : fairStates (8 * (k + 1)) = effect .ovf (effect .idle (fairStates (8 * k + 6))) := by
        have e6 : fairOps (8 * k + 6) = .idle := by simp [fairOps, Nat.add_mod]
        have e7 : fairOps (8 * k + 7) = .ovf := by simp [fairOps, Nat.add_mod]
        rw [show 8 * (k + 1) = (8 * k + 6) + 1 + 1 by omega, fairStates, fairStates, e6]
        rw [show 8 * k + 6 + 1 = 8 * k + 7 by omega, e7]
      rw [h7, effect, effect, wake_ctrlPc, ovfHandler_eq]
      simp only [idleBody, goto_ctrlPc]
      split_ifs <;> simp_all
  have := h (n / 8) (h0 _) (n % 8) (Nat.mod_lt _ (by omega))
  rwa [Nat.div_add_mod] at this

theorem witness_FairRunsServeTheAlarm : FairRun fairStates fairOps where
  run := ⟨fun n => exec_of_enabled (fairStates_pc n), fairStates_pc⟩
  ovf_forever := fun n => ⟨8 * n + 7, by omega, by simp [fairOps, Nat.add_mod]⟩
  ctrl_steps := fun n _ => ⟨8 * n, by omega, by simp [fairOps, Instr.agent]⟩

end Sys2Proof.Tests
end

/-! ### Input capture: what EDGE_UP and EDGE_DOWN do (41_input_capture.md R110, R111) -/

namespace Sys2Proof.Machine

/-- An armed level-up button raises its event, is disarmed, and its debounce count starts at 0. -/
theorem captureUp_of_armed {s : State} (h : s.upArmed = true) :
    captureUp s = { s with upEvt := true, upArmed := false, debUp := 0 } := if_pos h

/-- A disarmed level-up button ignores the edge. -/
theorem captureUp_of_disarmed {s : State} (h : s.upArmed = false) : captureUp s = s := by
  simp [captureUp, h]

/-- An armed level-down button raises its event, is disarmed, and its debounce count starts at 0. -/
theorem captureDown_of_armed {s : State} (h : s.downArmed = true) :
    captureDown s = { s with downEvt := true, downArmed := false, debDown := 0 } := if_pos h

/-- A disarmed level-down button ignores the edge. -/
theorem captureDown_of_disarmed {s : State} (h : s.downArmed = false) : captureDown s = s := by
  simp [captureDown, h]

/-- EDGE_UP captures the edge and then wakes the sequencer, in every state. -/
theorem exec_edgeUp (s : State) : exec .edgeUp s = .next (wake (captureUp s)) := rfl

/-- EDGE_DOWN captures the edge and then wakes the sequencer, in every state. -/
theorem exec_edgeDown (s : State) : exec .edgeDown s = .next (wake (captureDown s)) := rfl

end Sys2Proof.Machine

namespace Sys2Proof
open Machine

/-- Settles O25, by whether the button is armed: its handler is known in each case, and the wake writes
only `ctrl_pc`. -/
theorem edgeUpCaptures : Obligations.EdgeUpCaptures := by
  refine ⟨by decide, fun s => ⟨fun armed => ?_, fun disarmed => ?_⟩⟩
  · rw [exec_edgeUp, captureUp_of_armed armed, wake_eq]
  · rw [exec_edgeUp, captureUp_of_disarmed disarmed, wake_eq]

/-- Settles O26, by whether the button is armed: its handler is known in each case, and the wake writes
only `ctrl_pc`. -/
theorem edgeDownCaptures : Obligations.EdgeDownCaptures := by
  refine ⟨by decide, fun s => ⟨fun armed => ?_, fun disarmed => ?_⟩⟩
  · rw [exec_edgeDown, captureDown_of_armed armed, wake_eq]
  · rw [exec_edgeDown, captureDown_of_disarmed disarmed, wake_eq]

end Sys2Proof

/-! ### The cycle timer: what OVF does to `cyc_cnt` and `alarm` (42_cycle_timer.md R121, R122) -/

namespace Sys2Proof.Machine

/-- OVF runs its handler and then wakes the sequencer, in every state. -/
theorem exec_ovf (s : State) : exec .ovf s = .next (wake (ovfHandler s)) := rfl

/-- The count after OVF: 0 on a match, and otherwise the next count. -/
theorem ovfHandler_cycCnt (s : State) :
    (ovfHandler s).cycCnt =
      if incr s.cfg.cycW s.cycCnt = cycleThreshold s then 0 else incr s.cfg.cycW s.cycCnt := by
  rw [ovfHandler_eq]

/-- The alarm after OVF: the one already pending, or the one a match raises. It is one bit, so the two
together are still one alarm. -/
theorem ovfHandler_alarm (s : State) :
    (ovfHandler s).alarm = (s.alarm || decide (incr s.cfg.cycW s.cycCnt = cycleThreshold s)) := by
  rw [ovfHandler_eq]

end Sys2Proof.Machine

namespace Sys2Proof
open Machine

/-- Settles O16: the match resets the count, and the pending alarm alone already keeps `alarm` at 1, so
the match's own alarm adds nothing. -/
theorem alarmIsNotQueued : Obligations.AlarmIsNotQueued := by
  intro s pending hmatch
  have hmatch : incr s.cfg.cycW s.cycCnt = cycleThreshold s := hmatch
  refine ⟨wake (ovfHandler s), exec_ovf s, ?_, ?_⟩
  · rw [wake_cycCnt, ovfHandler_cycCnt, if_pos hmatch]
  · rw [wake_alarm, ovfHandler_alarm, pending, Bool.true_or]

end Sys2Proof

/-! ### The cycle state machine: the end of an Active phase, SVC_UP and SVC_DOWN (44_cycle_fsm.md R143,
R145, R146) -/

namespace Sys2Proof.Machine

/-- SVC_ALARM at its place in the sequence runs its body. -/
theorem exec_svcAlarm_home {s : State} (h : s.ctrlPc = .sAlarm) :
    exec .svcAlarm s = .next (svcAlarmBody s) := inSequence_home svcAlarmBody h

/-- SVC_UP at its place in the sequence runs its body. -/
theorem exec_svcUp_home {s : State} (h : s.ctrlPc = .sUp) :
    exec .svcUp s = .next (svcUpBody s) := inSequence_home svcUpBody h

/-- SVC_DOWN at its place in the sequence runs its body. -/
theorem exec_svcDown_home {s : State} (h : s.ctrlPc = .sDown) :
    exec .svcDown s = .next (svcDownBody s) := inSequence_home svcDownBody h

/-- An alarm in an Active phase with no step left ends the phase. CycleResetPending, which is cleared,
becomes the new alarm. -/
theorem svcAlarmBody_endOfActive {s : State} (ha : s.alarm = true) (hp : s.phase = .active)
    (hr : s.stepsRem = 0) :
    svcAlarmBody s = { s with
      phase := .pause, busyQ := false, alarm := s.crp, crp := false, ctrlPc := .sUp } := by
  obtain ⟨noAlarm, -⟩ | ⟨-, -, stepsLeft, -⟩ | ⟨-, -, -, body⟩ | ⟨-, paused, -⟩ := svcAlarmBody_cases s
  · simp [ha] at noAlarm
  · omega
  · exact body
  · simp [hp] at paused

/-- With a level-up event SVC_UP consumes it, raises the level if it may, and restarts the display window. -/
theorem svcUpBody_of_event {s : State} (h : s.upEvt = true) :
    svcUpBody s = { s with
      upEvt := false
      level := if s.dispOn = true ∧ s.level < s.cfg.stepLevels then wrap s.cfg.levelW (s.level + 1) else s.level
      dispOn := true, dispCnt := 0, dispSec := 0, ctrlPc := .sDown } :=
  congrArg (goto .sDown) (if_pos h)

/-- With no level-up event SVC_UP only advances the sequencer. -/
theorem svcUpBody_of_no_event {s : State} (h : s.upEvt = false) :
    svcUpBody s = { s with ctrlPc := .sDown } :=
  congrArg (goto .sDown) (if_neg (Bool.eq_false_iff.mp h))

/-- With a level-down event SVC_DOWN consumes it, lowers the level if it may, and restarts the display
window. -/
theorem svcDownBody_of_event {s : State} (h : s.downEvt = true) :
    svcDownBody s = { s with
      downEvt := false
      level := if s.dispOn = true ∧ 1 < s.level then s.level - 1 else s.level
      dispOn := true, dispCnt := 0, dispSec := 0, ctrlPc := .sPoll } :=
  congrArg (goto .sPoll) (if_pos h)

/-- With no level-down event SVC_DOWN only advances the sequencer. -/
theorem svcDownBody_of_no_event {s : State} (h : s.downEvt = false) :
    svcDownBody s = { s with ctrlPc := .sPoll } :=
  congrArg (goto .sPoll) (if_neg (Bool.eq_false_iff.mp h))

end Sys2Proof.Machine

namespace Sys2Proof
open Machine

/-- Settles O30: the alarm after the end of the phase is the old CycleResetPending, so its two values are
the two clauses. -/
theorem endOfActivePhase : Obligations.EndOfActivePhase := by
  intro s home alarm active noSteps
  rw [exec_svcAlarm_home home, svcAlarmBody_endOfActive alarm active noSteps]
  refine ⟨fun pending => ?_, fun notPending => ?_⟩
  · rw [pending]
  · rw [notPending]

/-- Settles O32, by whether a level-up event is pending: the body is known in each case. -/
theorem svcUpRaisesTheLevel : Obligations.SvcUpRaisesTheLevel := by
  refine ⟨by decide, fun s home => ?_⟩
  rw [exec_svcUp_home home]
  refine ⟨fun event => ?_, fun noEvent => ?_⟩
  · rw [svcUpBody_of_event event, wrap]
  · rw [svcUpBody_of_no_event noEvent]

/-- Settles O33, by whether a level-down event is pending: the body is known in each case. -/
theorem svcDownLowersTheLevel : Obligations.SvcDownLowersTheLevel := by
  refine ⟨by decide, fun s home => ?_⟩
  rw [exec_svcDown_home home]
  refine ⟨fun event => ?_, fun noEvent => ?_⟩
  · rw [svcDownBody_of_event event]
  · rw [svcDownBody_of_no_event noEvent]

end Sys2Proof

/-! ### Words: the fields of a word and the opcode map in both directions (30_encoding.md R60, R64) -/

namespace Sys2Proof

theorem wordFields_op (w : OpWord) : (wordFields w).op = w.toNat % 16 := by
  simp [wordFields, BitVec.extractLsb'_toNat]

theorem wordFields_t (w : OpWord) : (wordFields w).t = decide (w.toNat / 16 % 2 = 1) := by
  simp [wordFields, BitVec.getLsbD, Nat.testBit_eq_decide_div_mod_eq]

theorem wordFields_res (w : OpWord) : (wordFields w).res = w.toNat / 32 := by
  have := w.isLt
  simp only [wordFields, BitVec.extractLsb'_toNat, Nat.shiftRight_eq_div_pow]
  omega

theorem assemble_toNat : ∀ (op : BitVec 4) (t : Bit), (assemble op t).toNat = op.toNat + 16 * t.toNat := by
  decide

/-- A word whose reserved field is 0 is its `op` and `T` put together. -/
theorem eq_assemble_of_resClear {w : OpWord} (h : (wordFields w).resClear = true) :
    w = assemble (BitVec.ofNat 4 (wordFields w).op) (wordFields w).t := by
  have hres : w.toNat / 32 = 0 := by simpa [WordFields.resClear, wordFields_res] using h
  apply BitVec.eq_of_toNat_eq
  rw [assemble_toNat, wordFields_op, wordFields_t, BitVec.toNat_ofNat]
  by_cases ht : w.toNat / 16 % 2 = 1 <;> simp [ht] <;> omega

/-- The opcode map gives every operation back from its word. -/
theorem decode_encode (i : Instr) : decode (encode i) = .ok i := by
  cases i with
  | pollTest t => cases t <;> rfl
  | _ => rfl

/-- A word of an operation without operand is accepted iff `T` and `res` are 0, and is otherwise refused
for its reserved bits (30_encoding.md R71). -/
theorem plainWord_cases (f : WordFields) (i : Instr) :
    (f.resClear = true ∧ f.t = false ∧ plainWord f i = .ok i) ∨
    ((f.resClear = false ∨ f.t = true) ∧ plainWord f i = .error .reservedBits) := by
  cases hr : f.resClear <;> cases ht : f.t <;> simp [plainWord, hr, ht]

/-- What decoding a word can do: a reserved opcode, an assigned opcode with reserved bits, or the operation
whose word it is (30_encoding.md R70, R71, R73). -/
theorem decode_cases (w : OpWord) :
    ((wordFields w).opAssigned = false ∧ decode w = .error .reservedOpcode) ∨
    ((wordFields w).opAssigned = true ∧ ((wordFields w).resClear = false ∨ (wordFields w).tAllowed = false) ∧
      decode w = .error .reservedBits) ∨
    ((wordFields w).wellFormed = true ∧ ∃ i, decode w = .ok i ∧ encode i = w) := by
  have plain {n : Nat} (i : Instr) (hop : (wordFields w).op = n) (hn : (1 ≤ n ∧ n ≤ 10 ∨ n = 15) ∧ n ≠ 7)
      (hi : encode i = assemble (BitVec.ofNat 4 n) false) :
      ((wordFields w).opAssigned = true ∧ ((wordFields w).resClear = false ∨ (wordFields w).tAllowed = false) ∧
        plainWord (wordFields w) i = .error .reservedBits) ∨
      ((wordFields w).wellFormed = true ∧ ∃ j, plainWord (wordFields w) i = .ok j ∧ encode j = w) := by
    obtain ⟨hassigned, hn7⟩ := hn
    obtain ⟨hres, ht, hok⟩ | ⟨hbad, herr⟩ := plainWord_cases (wordFields w) i
    · refine .inr ⟨?_, i, hok, ?_⟩
      · simp [WordFields.wellFormed, WordFields.opAssigned, WordFields.tAllowed, hop, hres, ht, hassigned]
      · rw [hi, eq_assemble_of_resClear hres, hop, ht]
    · refine .inl ⟨?_, ?_, herr⟩
      · simp [WordFields.opAssigned, hop, hassigned]
      · simpa [WordFields.tAllowed, hop, hn7] using hbad
  unfold decode
  dsimp only
  split
  case h_1 hop => exact .inr (plain .ovf hop (by decide) rfl)
  case h_2 hop => exact .inr (plain .edgeUp hop (by decide) rfl)
  case h_3 hop => exact .inr (plain .edgeDown hop (by decide) rfl)
  case h_4 hop => exact .inr (plain .svcAlarm hop (by decide) rfl)
  case h_5 hop => exact .inr (plain .svcUp hop (by decide) rfl)
  case h_6 hop => exact .inr (plain .svcDown hop (by decide) rfl)
  case h_7 hop =>
    obtain hres | hres := Bool.eq_false_or_eq_true (wordFields w).resClear
    · refine .inr (.inr ⟨?_, .pollTest (wordFields w).t, by simp [hres], ?_⟩)
      · simp [WordFields.wellFormed, WordFields.opAssigned, WordFields.tAllowed, hop, hres]
      · conv_rhs => rw [eq_assemble_of_resClear hres, hop]
        rfl
    · exact .inr (.inl ⟨by simp [WordFields.opAssigned, hop], .inl hres, by simp [hres]⟩)
  case h_8 hop => exact .inr (plain .svcTest hop (by decide) rfl)
  case h_9 hop => exact .inr (plain .render hop (by decide) rfl)
  case h_10 hop => exact .inr (plain .idle hop (by decide) rfl)
  case h_11 hop => exact .inr (plain .reset hop (by decide) rfl)
  case h_12 =>
    refine .inl ⟨?_, rfl⟩
    simp only [WordFields.opAssigned, Bool.or_eq_false_iff, Bool.and_eq_false_iff, decide_eq_false_iff_not,
      beq_eq_false_iff_ne]
    grind

/-- Every word has one meaning: it is the word of the operation it decodes to. -/
theorem encode_of_decode {w : OpWord} {i : Instr} (h : decode w = .ok i) : encode i = w := by
  obtain ⟨-, herr⟩ | ⟨-, -, herr⟩ | ⟨-, j, hok, hw⟩ := decode_cases w
  · cases herr.symm.trans h
  · cases herr.symm.trans h
  · obtain rfl : j = i := Except.ok.inj (hok.symm.trans h)
    exact hw

theorem decode_eq_reservedOpcode_iff (w : OpWord) :
    decode w = .error .reservedOpcode ↔ (wordFields w).opAssigned = false := by
  obtain ⟨hop, hd⟩ | ⟨hop, -, hd⟩ | ⟨hw, i, hd, -⟩ := decode_cases w
  · simp [hop, hd]
  · simp [hop, hd]
  · simp_all [WordFields.wellFormed]

theorem decode_eq_reservedBits_iff (w : OpWord) :
    decode w = .error .reservedBits ↔ (wordFields w).opAssigned = true ∧
      ((wordFields w).resClear = false ∨ (wordFields w).tAllowed = false) := by
  obtain ⟨hop, hd⟩ | ⟨hop, hbad, hd⟩ | ⟨hw, i, hd, -⟩ := decode_cases w
  · simp [hop, hd]
  · simp [hop, hbad, hd]
  · simp_all [WordFields.wellFormed]

/-- Settles O3, by induction on the list: each word gives its operation back. -/
theorem streamDecodesToItsOperations : Obligations.StreamDecodesToItsOperations := by
  intro is
  induction is with
  | nil => rfl
  | cons i is ih =>
    rw [encodeStream] at ih
    simp only [encodeStream, List.map_cons, decodeStream, decode_encode, ih]

/-- Settles O4, by induction on the words: each is the word of the operation it decodes to. -/
theorem decodedStreamEncodesBack : Obligations.DecodedStreamEncodesBack := by
  intro ws
  induction ws with
  | nil => intro is h; cases h; rfl
  | cons w ws ih =>
    intro is h
    unfold decodeStream at h
    split at h
    next => cases h
    next i hw =>
      split at h
      next => cases h
      next js hjs =>
        cases h
        rw [encodeStream, List.map_cons, encode_of_decode hw, ← encodeStream, ih js hjs]

/-- Settles O1, by evaluating the decoder on the twelve words. -/
theorem opcodeMapWords : Obligations.OpcodeMapWords := by
  unfold Obligations.OpcodeMapWords
  decide

/-- Settles O2, by reading the fields of the two reasons as parts of the word's number. -/
theorem reservedWordsNameNoOperation : Obligations.ReservedWordsNameNoOperation := by
  intro w
  dsimp only
  rw [decode_eq_reservedOpcode_iff, decode_eq_reservedBits_iff]
  simp only [WordFields.opAssigned, WordFields.resClear, WordFields.tAllowed, wordFields_op, wordFields_t,
    wordFields_res]
  constructor
  · simp only [Bool.or_eq_false_iff, Bool.and_eq_false_iff, decide_eq_false_iff_not, beq_eq_false_iff_ne]
    omega
  · simp

end Sys2Proof

/-! ### The step: what is fetched, and which operation is run (20_memory.md R54, R55) -/

namespace Sys2Proof.Machine

/-- An operation at its place in the sequence is enabled, and one without a place always is. -/
theorem enabled_iff {i : Instr} {s : State} : Enabled i s ↔ (homePc i).getD s.ctrlPc = s.ctrlPc := by
  unfold Enabled
  cases homePc i with
  | none => simp
  | some p => simp [eq_comm]

/-- The step of CTRL that is picked at `ctrl_pc` is enabled there (46_main_loop.md R171). -/
theorem enabled_microOp {s : State} {t : Bit} {i : Instr} (h : microOp s.ctrlPc t = some i) : Enabled i s := by
  rw [enabled_iff]
  cases hp : s.ctrlPc <;> rw [hp] at h <;> cases h <;> rfl

/-- The operations of the input ports have no place in the sequence. -/
theorem enabled_strobeOp (e : EnvOp) (s : State) : Enabled (strobeOp e) s := by
  rw [enabled_iff]
  cases e <;> rfl

theorem freeOp_enabled (s : State) : Enabled (freeOp s) s := by
  unfold freeOp
  split
  · dsimp only
    split
    next hi => exact enabled_microOp hi
    next => exact enabled_strobeOp _ s
  · exact fun p hp => by simp [homePc] at hp

theorem freeOp_of_not_started {s : State} (h : s.started = false) : freeOp s = .reset := by
  simp [freeOp, h]

/-- A CTRL micro-operation away from its place is refused (30_encoding.md R72). -/
theorem inSequence_away {home : CtrlPc} {s : State} (body : State → State) (h : s.ctrlPc ≠ home) :
    inSequence home body s = .next (refuse .outOfSequence s) := if_neg h

/-- An operation that is not enabled is refused as out of sequence. -/
theorem exec_of_not_enabled {i : Instr} {s : State} (h : ¬ Enabled i s) :
    exec i s = .next (refuse .outOfSequence s) := by
  have away {home : CtrlPc} (hp : homePc i = some home) : s.ctrlPc ≠ home := fun hc =>
    h fun p hp' => hc.trans (Option.some.inj (hp.symm.trans hp'))
  have free (hp : homePc i = none) : False := h fun p hp' => by simp [hp] at hp'
  cases i with
  | ovf => exact (free rfl).elim
  | edgeUp => exact (free rfl).elim
  | edgeDown => exact (free rfl).elim
  | svcAlarm => exact inSequence_away _ (away rfl)
  | svcUp => exact inSequence_away _ (away rfl)
  | svcDown => exact inSequence_away _ (away rfl)
  | pollTest l => exact inSequence_away _ (away rfl)
  | svcTest => exact inSequence_away _ (away rfl)
  | render => exact inSequence_away _ (away rfl)
  | idle => exact inSequence_away _ (away rfl)
  | reset => exact (free rfl).elim

/-- Every operation goes on, in every state. -/
theorem exec_total (i : Instr) (s : State) : ∃ t, exec i s = .next t := by
  by_cases h : Enabled i s
  · exact ⟨_, exec_of_enabled h⟩
  · exact ⟨_, exec_of_not_enabled h⟩

/-- A run goes on from the state its first operation leaves. -/
theorem runOps_cons {i : Instr} {s u : State} (h : exec i s = .next u) (is : List Instr) :
    runOps (i :: is) s = runOps is u := by
  simp only [runOps, h]

/-- A run ends where its tail does, from the state its first operation leaves. -/
theorem runOps_cons_eq_next {i : Instr} {is : List Instr} {s t : State} :
    runOps (i :: is) s = .next t ↔ ∃ u, exec i s = .next u ∧ runOps is u = .next t := by
  obtain ⟨u, hu⟩ := exec_total i s
  simp [runOps_cons hu, hu]

/-- Every run goes on, from every state. -/
theorem runOps_total (is : List Instr) (s : State) : ∃ t, runOps is s = .next t := by
  induction is generalizing s with
  | nil => exact ⟨s, rfl⟩
  | cons i is ih =>
    obtain ⟨u, hu⟩ := exec_total i s
    rw [runOps_cons hu]
    exact ih u

/-- A word that decodes, in a stream that has begun or begins with it, is taken and run. -/
theorem fetch_of_decode {s : State} {w : OpWord} {rest : List OpWord} {i : Instr}
    (hc : s.cfg.admitted = true) (hs : s.stream = w :: rest) (hd : decode w = .ok i)
    (hb : s.started = true ∨ i = .reset) : fetch s = .run i { s with stream := rest, report := .done } := by
  simp only [fetch_admitted hc, takeNext, hs, hd, if_pos hb]

/-- A word that names no operation is taken and rejected. -/
theorem fetch_of_reject {s : State} {w : OpWord} {rest : List OpWord} {e : Reject}
    (hc : s.cfg.admitted = true) (hs : s.stream = w :: rest) (hd : decode w = .error e) :
    fetch s = .reject (refusalOf e) { s with stream := rest, report := .done } := by
  simp only [fetch_admitted hc, takeNext, hs, hd]

/-- Before the first RESET a word of another operation is taken and rejected (70_reset_and_hazards.md R222). -/
theorem fetch_of_not_begun {s : State} {w : OpWord} {rest : List OpWord} {i : Instr}
    (hc : s.cfg.admitted = true) (hs : s.stream = w :: rest) (hd : decode w = .ok i)
    (hb : s.started = false) (hi : i ≠ .reset) :
    fetch s = .reject .outOfSequence { s with stream := rest, report := .done } := by
  simp [fetch_admitted hc, takeNext, hs, hd, hb, hi]

/-- With no word listed the free choice is run. -/
theorem fetch_of_empty {s : State} (hc : s.cfg.admitted = true) (hs : s.stream = []) :
    fetch s = .run (freeOp s) { s with draws := s.draws + 1, report := .done } := by
  simp only [fetch_admitted hc, takeNext, hs]

theorem step_of_run {s s' : State} {i : Instr} (h : fetch s = .run i s') : step s = exec i s' := by
  simp only [step, h]

theorem step_of_reject {s s' : State} {r : Refusal} (h : fetch s = .reject r s') :
    step s = .next (refuse r s') := by
  simp only [step, h]

/-- No operation writes the configuration or `refused`, and the only outcome one records is RENDER's
fault (45_display_decoder.md R163). -/
theorem effect_outcome (i : Instr) (s : State) :
    (effect i s).cfg = s.cfg ∧ (effect i s).refused = s.refused ∧
      ((effect i s).report = s.report ∨ (effect i s).report = .fault .renderReject) := by
  cases i with
  | ovf => simp [effect, ovfHandler_eq]
  | edgeUp => simp [effect, captureUp_frame]
  | edgeDown => simp [effect, captureDown_frame]
  | svcAlarm =>
    obtain ⟨-, h⟩ | ⟨-, -, -, h⟩ | ⟨-, -, -, h⟩ | ⟨-, -, h⟩ := svcAlarmBody_cases s <;>
      simp [effect, h, startActive]
  | svcUp => rw [effect, svcUpBody_frame]; simp
  | svcDown => rw [effect, svcDownBody_frame]; simp
  | pollTest l => rw [effect, pollTestBody_frame]; simp
  | svcTest => rw [effect, svcTestBody_frame]; simp
  | render =>
    simp only [effect, renderBody, goto_cfg, goto_refused, goto_report]
    split
    · split <;> simp
    · simp
  | idle => simp [effect, idleBody]
  | reset => simp [effect, State.resetOf]

theorem exec_cfg {i : Instr} {s t : State} (h : exec i s = .next t) : t.cfg = s.cfg := by
  obtain ⟨-, rfl⟩ | ⟨-, -, rfl⟩ := exec_cases h
  · exact (effect_outcome i s).1
  · rfl

end Sys2Proof.Machine

namespace Sys2Proof
open Machine

/-- Settles O5: the word is fetched, and the step runs what was fetched. -/
theorem stepRunsTheDecodedOperation : Obligations.StepRunsTheDecodedOperation :=
  fun _ _ _ _ admitted listed decoded begun => step_of_run (fetch_of_decode admitted listed decoded begun)

/-- Settles O6: the word is rejected for either reason, and the step records the reason. -/
theorem refusedWordOnlyMarksTheRun : Obligations.RefusedWordOnlyMarksTheRun :=
  fun _ _ _ admitted listed =>
    ⟨fun decoded => step_of_reject (fetch_of_reject admitted listed decoded),
     fun decoded => step_of_reject (fetch_of_reject admitted listed decoded)⟩

/-- Settles O7: the word is rejected as out of sequence, and the step records that. -/
theorem streamMustBeginWithReset : Obligations.StreamMustBeginWithReset :=
  fun _ _ _ _ admitted fresh listed decoded other =>
    step_of_reject (fetch_of_not_begun admitted listed decoded fresh other)

/-- Settles O8: the free choice is RESET, a port operation, or the micro-operation at `ctrl_pc`. -/
theorem freeChoiceIsEnabled : Obligations.FreeChoiceIsEnabled :=
  fun s admitted empty =>
    ⟨freeOp s, freeOp_enabled s, freeOp_of_not_started, step_of_run (fetch_of_empty admitted empty)⟩

/-- Settles O9: nothing is fetched, and the step records why. -/
theorem unadmittedConfigurationIsRefused : Obligations.UnadmittedConfigurationIsRefused :=
  fun _ rejected => step_of_reject (fetch_badConfig rejected)

/-- Settles O10: what is fetched is an operation, which goes on and keeps the configuration, or a
refusal, which is a next state of the same configuration. -/
theorem stepAlwaysGoesOn : Obligations.StepAlwaysGoesOn := by
  intro s
  cases hf : fetch s with
  | run i s' =>
    obtain ⟨t, ht⟩ := exec_total i s'
    obtain ⟨-, hs'⟩ := fetch_run hf
    exact ⟨t, (step_of_run hf).trans ht, by rw [exec_cfg ht, hs']⟩
  | reject r s' =>
    refine ⟨_, step_of_reject hf, ?_⟩
    obtain ⟨-, rfl⟩ | ⟨-, -, rfl⟩ := fetch_reject hf <;> rfl

/-- Settles O11: the placed word decodes to its operation, in a stream that counts as begun. -/
theorem placedWordRunsNext : Obligations.PlacedWordRunsNext := by
  intro s i admitted
  have placed : s.withFetchWord 8 (encode i).toNat = { s with
      stream := encode i :: s.stream, started := true, ctrlPc := (homePc i).getD s.ctrlPc } := by
    simp only [State.withFetchWord, BitVec.ofNat_toNat, BitVec.setWidth_eq, placeWord, decode_encode]
  rw [placed]
  exact step_of_run (fetch_of_decode admitted rfl (decode_encode i) (.inl rfl))

/-- Settles O12: an enabled operation has its effect, and no effect writes `refused` or records a
refusal. -/
theorem enabledOperationIsNeverRefused : Obligations.EnabledOperationIsNeverRefused := by
  intro i s enabled
  obtain ⟨-, hrefused, hreport⟩ := effect_outcome i s
  refine ⟨effect i s, exec_of_enabled enabled, hrefused, fun r hr => ?_⟩
  obtain same | fault := hreport
  · rw [← same, hr]
  · rw [fault] at hr; cases hr

/-- Settles O13: each CTRL operation passes the gate of the sequence, which refuses it. -/
theorem outOfSequenceIsRefused : Obligations.OutOfSequenceIsRefused :=
  fun _ => ⟨inSequence_away _, inSequence_away _, inSequence_away _, fun away _ => inSequence_away _ away,
    inSequence_away _, inSequence_away _, inSequence_away _⟩

/-- Settles O14: each body ends by going to the next place, IDLE to one of two. -/
theorem sequencerOrder : Obligations.SequencerOrder := by
  refine fun s => ⟨fun h => ⟨_, inSequence_home _ h, rfl⟩, fun h => ⟨_, inSequence_home _ h, rfl⟩,
    fun h => ⟨_, inSequence_home _ h, rfl⟩, fun h _ => ⟨_, inSequence_home _ h, rfl⟩,
    fun h => ⟨_, inSequence_home _ h, rfl⟩, fun h => ⟨_, inSequence_home _ h, rfl⟩,
    fun h => ⟨_, inSequence_home _ h, ?_⟩⟩
  rw [idleBody, goto_ctrlPc]
  split
  · exact .inr rfl
  · exact .inl rfl

end Sys2Proof

/-! ### The CTRL operations and RESET, one equation per case (41_input_capture.md R113, 44_cycle_fsm.md R140
to R148, 45_display_decoder.md R162, 46_main_loop.md R172, 70_reset_and_hazards.md R220) -/

namespace Sys2Proof.Machine

theorem exec_pollTest_home {s : State} (t : Bit) (h : s.ctrlPc = .sPoll) :
    exec (.pollTest t) s = .next (pollTestBody t s) := inSequence_home (pollTestBody t) h

theorem exec_svcTest_home {s : State} (h : s.ctrlPc = .sTsvc) :
    exec .svcTest s = .next (svcTestBody s) := inSequence_home svcTestBody h

theorem exec_render_home {s : State} (h : s.ctrlPc = .sRender) :
    exec .render s = .next (renderBody s) := inSequence_home renderBody h

theorem exec_idle_home {s : State} (h : s.ctrlPc = .sIdle) :
    exec .idle s = .next (idleBody s) := inSequence_home idleBody h

theorem testPressed_iff (s : State) (t : Bit) :
    testPressed s t = true ↔ s.testPrev = true ∧ t = false ∧ s.testArmed = true := by
  simp [testPressed, and_assoc]

/-- A press raises the test event and disarms the button; the level is kept. -/
theorem pollTestBody_of_press {s : State} {t : Bit} (h : testPressed s t = true) :
    pollTestBody t s = { s with
      testEvt := true, testArmed := false, debTest := 0, testPrev := t, ctrlPc := .sTsvc } := by
  simp only [pollTestBody, if_pos h, goto]

/-- With no press only the level is kept. -/
theorem pollTestBody_of_no_press {s : State} {t : Bit} (h : testPressed s t = false) :
    pollTestBody t s = { s with testPrev := t, ctrlPc := .sTsvc } := by
  simp [pollTestBody, h, goto]

/-- With no alarm SVC_ALARM only advances the sequencer. -/
theorem svcAlarmBody_of_no_alarm {s : State} (h : s.alarm = false) :
    svcAlarmBody s = { s with ctrlPc := .sUp } :=
  congrArg (goto .sUp) (if_neg (Bool.eq_false_iff.mp h))

/-- An alarm in an Active phase with a step left emits it; the last one may raise the alarm again. -/
theorem svcAlarmBody_step {s : State} (ha : s.alarm = true) (hp : s.phase = .active) (hr : 0 < s.stepsRem) :
    svcAlarmBody s = { s with
      alarm := s.cfg.lastStepRearm && decide (s.stepsRem - 1 = 0), stepsRem := s.stepsRem - 1
      outLog := s.outLog ++ [.step], ctrlPc := .sUp } := by
  obtain ⟨noAlarm, -⟩ | ⟨-, -, -, body⟩ | ⟨-, -, noSteps, -⟩ | ⟨-, paused, -⟩ := svcAlarmBody_cases s
  · simp [ha] at noAlarm
  · exact body
  · omega
  · simp [hp] at paused

/-- An alarm in Pause starts an Active phase. -/
theorem svcAlarmBody_start {s : State} (ha : s.alarm = true) (hp : s.phase = .pause) :
    svcAlarmBody s = { startActive s with alarm := false, ctrlPc := .sUp } := by
  obtain ⟨noAlarm, -⟩ | ⟨-, active, -⟩ | ⟨-, active, -⟩ | ⟨-, -, body⟩ := svcAlarmBody_cases s
  · simp [ha] at noAlarm
  · simp [hp] at active
  · simp [hp] at active
  · exact body

/-- With no test event SVC_TEST only advances the sequencer. -/
theorem svcTestBody_of_no_event {s : State} (h : s.testEvt = false) :
    svcTestBody s = { s with ctrlPc := .sRender } :=
  congrArg (goto .sRender) (if_neg (Bool.eq_false_iff.mp h))

/-- A test event with test mode off turns it on and restarts the display window. -/
theorem svcTestBody_enter {s : State} (he : s.testEvt = true) (hm : s.testMode = false) :
    svcTestBody s = { s with
      testEvt := false, testMode := true, dispOn := true, dispCnt := 0, dispSec := 0, ctrlPc := .sRender } := by
  simp [svcTestBody, toggleTest, displayRestart, goto, he, hm]

/-- A test event with test mode on turns it off, and the running phase goes on at the normal speed of the
level, with a restart of the cycle pending. -/
theorem svcTestBody_leave {s : State} (he : s.testEvt = true) (hm : s.testMode = true) :
    svcTestBody s = { s with
      testEvt := false, testMode := false, dispOn := true, dispCnt := 0, dispSec := 0
      stepIv := wrap s.cfg.siW (stepIntervalFor s.cfg false s.level), crp := true, ctrlPc := .sRender } := by
  simp [svcTestBody, toggleTest, leaveTest, displayRestart, goto, he, hm]

/-- The decoder gives the digits 0 to 9 their masks, in the table's order (45_display_decoder.md R160). -/
theorem decodeDigit_of_lt (tbl : SegTable) {d : Nat} (h : d < 10) :
    decodeDigit tbl d =
      some [tbl.d0, tbl.d1, tbl.d2, tbl.d3, tbl.d4, tbl.d5, tbl.d6, tbl.d7, tbl.d8, tbl.d9][d] := by
  match d with
  | 0 | 1 | 2 | 3 | 4 | 5 | 6 | 7 | 8 | 9 => rfl
  | _ + 10 => omega

theorem decodeDigit_of_ge (tbl : SegTable) {d : Nat} (h : 10 ≤ d) : decodeDigit tbl d = none := by
  rw [← Option.not_isSome_iff_eq_none, decodeDigit_isSome]
  omega

theorem renderBody_off {s : State} (h : s.dispOn = false) :
    renderBody s = { s with segQ := 0#7, ctrlPc := .sIdle } := by
  simp [renderBody, goto, h]

theorem renderBody_accept {s : State} {m : SegMask} (h : s.dispOn = true)
    (hm : decodeDigit s.cfg.segTable s.level = some m) :
    renderBody s = { s with segQ := m, ctrlPc := .sIdle } := by
  simp [renderBody, goto, h, hm]

theorem renderBody_reject {s : State} (h : s.dispOn = true)
    (hm : decodeDigit s.cfg.segTable s.level = none) :
    renderBody s = { s with renderErr := true, report := .fault .renderReject, ctrlPc := .sIdle } := by
  simp [renderBody, goto, h, hm]

theorem anyPending_iff (s : State) : anyPending s = true ↔
    s.alarm = true ∨ s.upEvt = true ∨ s.downEvt = true ∨ s.testEvt = true := by
  simp [anyPending, or_assoc]

/-- `SPC(l)` with a divisor. -/
theorem stepsPerCycle_of_pos {c : Config} (l : Nat) (h : 0 < c.stepLevels) :
    stepsPerCycle c l = l * c.frs / c.stepLevels := divide_of_pos h

/-- `StepIntervalFor(t, l)` with both its divisors. -/
theorem stepIntervalFor_of_pos {c : Config} (t : Bit) {l : Nat} (h : 0 < c.stepLevels)
    (hn : 0 < l * c.frs / c.stepLevels) :
    stepIntervalFor c t l = activeDur c t / (l * c.frs / c.stepLevels) := by
  rw [stepIntervalFor, stepsPerCycle_of_pos l h, divide_of_pos hn]

end Sys2Proof.Machine

namespace Sys2Proof
open Machine

/-- Settles O27, by whether the poll sees a press. -/
theorem pollTestDetectsThePress : Obligations.PollTestDetectsThePress := by
  intro s l home
  rw [exec_pollTest_home l home, ← testPressed_iff]
  refine ⟨fun press => ?_, fun noPress => ?_⟩
  · rw [pollTestBody_of_press press]
  · rw [pollTestBody_of_no_press (Bool.eq_false_iff.mpr noPress)]

/-- Settles O28: with no alarm the body only advances. -/
theorem svcAlarmWithoutAlarm : Obligations.SvcAlarmWithoutAlarm := by
  intro s home noAlarm
  rw [exec_svcAlarm_home home, svcAlarmBody_of_no_alarm noAlarm]

/-- Settles O29: the count after the step is 0 exactly when it was 1. -/
theorem activeAlarmStepsTheMotor : Obligations.ActiveAlarmStepsTheMotor := by
  intro s home alarm active stepsLeft
  refine ⟨_, exec_svcAlarm_home home, ?_⟩
  rw [svcAlarmBody_step alarm active stepsLeft]
  refine ⟨rfl, ?_⟩
  have last : s.stepsRem - 1 = 0 ↔ s.stepsRem = 1 := by omega
  simp [last]

/-- Settles O31: the registers the start computes are the spec's quotients where their divisors are not 0. -/
theorem startOfActivePhase : Obligations.StartOfActivePhase := by
  intro s home alarm paused
  refine ⟨_, exec_svcAlarm_home home, ?_⟩
  rw [svcAlarmBody_start alarm paused]
  refine ⟨rfl, rfl, fun levels => ?_, fun levels steps => ?_⟩
  · exact congrArg (wrap s.cfg.stepsW) (stepsPerCycle_of_pos s.level levels)
  · exact congrArg (wrap s.cfg.siW) (stepIntervalFor_of_pos s.testMode levels steps)

/-- Settles O35, by whether a test event is pending. -/
theorem svcTestEntersTestMode : Obligations.SvcTestEntersTestMode := by
  intro s home
  rw [exec_svcTest_home home]
  refine ⟨fun noEvent => ?_, fun event off => ?_⟩
  · rw [svcTestBody_of_no_event noEvent]
  · rw [svcTestBody_enter event off]

/-- Settles O36: the interval is the spec's quotient where its divisors are not 0. -/
theorem svcTestLeavesTestMode : Obligations.SvcTestLeavesTestMode := by
  intro s home event on
  refine ⟨_, exec_svcTest_home home, ?_⟩
  rw [svcTestBody_leave event on]
  refine ⟨rfl, fun levels steps => ?_⟩
  exact congrArg (wrap s.cfg.siW) (stepIntervalFor_of_pos false levels steps)

/-- Settles O34: the level-up service finds the display off and leaves it on, so the level-down service
lowers the level it found. -/
theorem upAndDownWithTheDisplayOff : Obligations.UpAndDownWithTheDisplayOff := by
  intro s home up down off
  have hup : svcUpBody s = { s with
      upEvt := false, dispOn := true, dispCnt := 0, dispSec := 0, ctrlPc := .sDown } := by
    rw [svcUpBody_of_event up]
    simp [off]
  rw [runOps_cons (exec_svcUp_home home), hup, runOps_cons (exec_svcDown_home rfl), svcDownBody_of_event (by exact down)]
  refine ⟨_, rfl, rfl, rfl, rfl, fun high => ?_, fun low => ?_⟩
  · simp [high]
  · simp [Nat.not_lt.mpr low]

/-- Settles O38, by the display and by whether the table has the digit. -/
theorem renderShowsTheLevel : Obligations.RenderShowsTheLevel := by
  intro s home
  dsimp only
  rw [exec_render_home home]
  refine ⟨fun off => ?_, fun on digit => ?_, fun on noDigit => ?_⟩
  · rw [renderBody_off off]
  · rw [renderBody_accept on (decodeDigit_of_lt _ digit)]
  · rw [renderBody_reject on (decodeDigit_of_ge _ noDigit)]

/-- Settles O39, by whether anything is pending. -/
theorem idleWaitsOnlyWhenNothingIsPending : Obligations.IdleWaitsOnlyWhenNothingIsPending := by
  intro s home
  rw [exec_idle_home home, ← anyPending_iff]
  refine ⟨fun ⟨alarm, up, down, test⟩ => ?_, fun pending => ?_⟩
  · simp [idleBody, anyPending, goto, alarm, up, down, test]
  · simp [idleBody, goto, pending]

/-- Settles O40: RESET's registers are the literals of `State.resetOf`, and the quotients the spec's where
their divisors are not 0. -/
theorem resetLoadsTheResetValues : Obligations.ResetLoadsTheResetValues := by
  intro s
  refine ⟨_, rfl, rfl, fun levels => ?_, fun levels steps => ?_⟩
  · exact congrArg (wrap s.cfg.stepsW) (stepsPerCycle_of_pos _ levels)
  · exact congrArg (wrap s.cfg.siW) (stepIntervalFor_of_pos false levels steps)

/-- Settles O41: the lines are registers, but for the segments, which the polarity inverts bit by bit. -/
theorem outputLinesFollowTheState : Obligations.OutputLinesFollowTheState := by
  refine fun s => ⟨rfl, rfl, rfl, rfl, fun k hk => ?_⟩
  cases hp : s.cfg.segActiveLow <;> simp [segO, hp, hk]

end Sys2Proof

/-! ### The block's invariant: each part of an operation keeps it (10_state.md section 9) -/

namespace Sys2Proof.Machine

/-- A duration of an admitted configuration, divided by a positive count, gives a threshold that fits the
cycle counter (42_cycle_timer.md R120). -/
theorem stepIntervalFor_fits {c : Config} {l : Nat} (t : Bit) (hc : c.admitted = true) (h1 : 1 ≤ l)
    (h2 : l ≤ c.stepLevels) : c.tpm * wrap c.siW (stepIntervalFor c t l) < 2 ^ c.cycW := by
  obtain ⟨-, -, -, -, -, -, -, -, -, -, hfits, -⟩ := admitted_iff.mp hc
  have hspc := (stepsPerCycle_bounds hc h1 h2).1
  have hdur : stepIntervalFor c t l ≤ max c.activeMs (max c.pauseMs c.testMs) := by
    rw [stepIntervalFor, divide_of_pos hspc]
    refine (Nat.div_le_self _ _).trans ?_
    cases t <;> simp [activeDur]
  exact (Nat.mul_le_mul_left _ ((wrap_le _ _).trans hdur)).trans_lt hfits

/-- The steps of a level in range fit their register. -/
theorem wrap_stepsPerCycle {c : Config} {l : Nat} (hc : c.admitted = true) (h1 : 1 ≤ l)
    (h2 : l ≤ c.stepLevels) : wrap c.stepsW (stepsPerCycle c l) = stepsPerCycle c l := by
  obtain ⟨-, -, -, -, -, -, -, -, -, -, -, hfrs, -⟩ := admitted_iff.mp hc
  exact wrap_of_lt ((stepsPerCycle_bounds hc h1 h2).2.trans_lt hfrs)

/-- Half a revolution is RESET's steps per cycle when STEP_LEVELS is even (10_state.md section 9). -/
theorem stepsPerCycle_levelInit_of_even {c : Config} (hpos : 1 ≤ c.stepLevels) (heven : c.stepLevels % 2 = 0) :
    stepsPerCycle c c.levelInit = c.frs / 2 := by
  obtain ⟨k, hk⟩ : ∃ k, c.stepLevels = k * 2 := ⟨c.stepLevels / 2, by omega⟩
  have hinit : c.levelInit = k := by unfold Config.levelInit; omega
  rw [stepsPerCycle, divide_of_pos hpos, hinit, hk, Nat.mul_div_mul_left _ _ (by omega)]

/-- RESET loads a state that meets the invariant. -/
theorem blockInv_resetOf {c : Config} (hc : c.admitted = true) (hl : 2 ≤ c.stepLevels) :
    BlockInv (State.resetOf c) := by
  obtain ⟨htpm, hpos, -, -, -, -, -, hdeb, hdisp, hper, -, hfrs, -, -, -, -, -, hlevel⟩ := admitted_iff.mp hc
  obtain ⟨hlo, hhi⟩ := levelInit_bounds hl
  obtain ⟨hspc1, hspc2⟩ := stepsPerCycle_bounds hc hlo hhi
  have hlevel' : (State.resetOf c).level = c.levelInit := wrap_of_lt (hhi.trans_lt hlevel)
  have hspc : (State.resetOf c).spc = stepsPerCycle c c.levelInit := wrap_stepsPerCycle hc hlo hhi
  exact {
    admitted := hc
    two_levels := hl
    level_pos := by rw [hlevel']; exact hlo
    level_le := by rw [hlevel']; exact hhi
    pre_lt := htpm
    cyc_lt := Nat.two_pow_pos _
    disp_cnt_lt := hdisp
    disp_sec_lt := hper
    disp_off := fun _ => ⟨rfl, rfl⟩
    up := ⟨fun _ => rfl, hdeb⟩
    down := ⟨fun _ => rfl, hdeb⟩
    test := ⟨fun _ => rfl, hdeb⟩
    busy_iff := ⟨fun _ => rfl, fun _ => rfl⟩
    pause_done := fun h => by cases h
    steps_le := fun _ => by
      have hrem : (State.resetOf c).stepsRem ≤ c.frs / 2 := wrap_le _ _
      obtain heven | hodd := Nat.mod_two_eq_zero_or_one c.stepLevels
      · left
        rw [hspc, stepsPerCycle_levelInit_of_even hpos heven]
        exact hrem
      · exact .inr ⟨hodd, hrem⟩
    spc_pos := by rw [hspc]; exact hspc1
    spc_le := by rw [hspc]; exact hspc2
    threshold_fits := stepIntervalFor_fits false hc hlo hhi
    step_iv_lt := wrap_lt _ _
    test_evt := fun _ => rfl
    no_render_err := rfl }

/-! Each part of OVF. -/

/-- One re-arm step keeps a button's flag and counter in step. -/
theorem ButtonInv.debounceNext {c : Config} {armed : Bit} {deb : Nat} (h : ButtonInv c armed deb)
    (hc : c.admitted = true) : ButtonInv c (debounceNext c armed deb).1 (debounceNext c armed deb).2 := by
  obtain ⟨-, -, -, -, -, -, -, hpos, -, -, -, -, -, hfits, -⟩ := admitted_iff.mp hc
  have hlt := h.deb_lt
  have hincr : incr c.debW deb = deb + 1 := incr_of_lt (by omega)
  obtain ⟨ha, he⟩ | ⟨ha, hne, he⟩ | ⟨ha, -, he⟩ := debounceNext_cases c armed deb <;> rw [he]
  · exact ⟨fun _ => h.armed_idle ha, hlt⟩
  · exact ⟨nofun, by rw [hincr] at hne ⊢; omega⟩
  · exact ⟨fun _ => rfl, hpos⟩

theorem BlockInv.cycleTimerStep {s : State} (h : BlockInv s) : BlockInv (cycleTimerStep s) := by
  rw [cycleTimerStep_eq]
  refine { h with cyc_lt := ?_ }
  dsimp only
  split
  · exact Nat.two_pow_pos _
  · exact incr_lt _ _

theorem BlockInv.displayStep {s : State} (h : BlockInv s) : BlockInv (displayStep s) := by
  obtain ⟨-, -, -, -, -, -, -, -, hdisp, hper, -, -, -, -, hdispW, hdsecW, -⟩ := admitted_iff.mp h.admitted
  have hcnt := h.disp_cnt_lt
  have hsec := h.disp_sec_lt
  have hincr : incr s.cfg.dispW s.dispCnt = s.dispCnt + 1 := incr_of_lt (by omega)
  have hincr' : incr s.cfg.dsecW s.dispSec = s.dispSec + 1 := incr_of_lt (by omega)
  obtain ⟨-, he⟩ | ⟨on, hne, he⟩ | ⟨on, -, hne, he⟩ | ⟨-, -, -, he⟩ := displayStep_cases s <;> rw [he]
  · exact h
  · exact { h with
      disp_cnt_lt := by dsimp only; omega
      disp_off := fun off => by simp [on] at off }
  · exact { h with
      disp_cnt_lt := hdisp
      disp_sec_lt := by dsimp only; omega
      disp_off := fun off => by simp [on] at off }
  · exact { h with disp_cnt_lt := hdisp, disp_sec_lt := hper, disp_off := fun _ => ⟨rfl, rfl⟩ }

theorem BlockInv.msTick {s : State} (h : BlockInv s) : BlockInv (msTick s) := by
  have hup {s : State} (h : BlockInv s) : BlockInv (debounceUp s) :=
    { h with up := h.up.debounceNext h.admitted }
  have hdown {s : State} (h : BlockInv s) : BlockInv (debounceDown s) :=
    { h with down := h.down.debounceNext h.admitted }
  have htest {s : State} (h : BlockInv s) : BlockInv (debounceTest s) :=
    { h with test := h.test.debounceNext h.admitted }
  exact htest (hdown (hup h.displayStep))

theorem BlockInv.prescalerStep {s : State} (h : BlockInv s) : BlockInv (prescalerStep s) := by
  obtain ⟨htpm, -, -, -, -, -, -, -, -, -, -, -, -, -, -, -, -, -⟩ := admitted_iff.mp h.admitted
  obtain ⟨-, he⟩ | ⟨hne, he⟩ := prescalerStep_cases s <;> rw [he]
  · exact BlockInv.msTick { h with pre_lt := htpm }
  · have hlt := h.pre_lt
    have hlt' : s.preCnt + 1 < s.cfg.tpm := by omega
    exact { h with pre_lt := (wrap_le _ _).trans_lt hlt' }

/-- The wake keeps the invariant: no test event is pending in S_WAIT. -/
theorem BlockInv.wake {s : State} (h : BlockInv s) : BlockInv (wake s) := by
  rw [wake_eq]
  refine { h with test_evt := fun hpc => h.test_evt ?_ }
  dsimp only at hpc
  split at hpc
  next hw => simp [hw]
  next => exact hpc

/-! The other bodies. -/

/-- A button that has just been disarmed is at the start of its window. -/
theorem ButtonInv.disarmed {c : Config} (hc : c.admitted = true) : ButtonInv c false 0 := by
  obtain ⟨-, -, -, -, -, -, -, hdeb, -⟩ := admitted_iff.mp hc
  exact ⟨fun _ => rfl, hdeb⟩

theorem BlockInv.captureUp {s : State} (h : BlockInv s) : BlockInv (captureUp s) := by
  obtain ha | ha := Bool.eq_false_or_eq_true s.upArmed
  · rw [captureUp_of_armed ha]
    exact { h with up := .disarmed h.admitted }
  · rwa [captureUp_of_disarmed ha]

theorem BlockInv.captureDown {s : State} (h : BlockInv s) : BlockInv (captureDown s) := by
  obtain ha | ha := Bool.eq_false_or_eq_true s.downArmed
  · rw [captureDown_of_armed ha]
    exact { h with down := .disarmed h.admitted }
  · rwa [captureDown_of_disarmed ha]

theorem BlockInv.pollTestBody {s : State} (h : BlockInv s) (t : Bit) : BlockInv (pollTestBody t s) := by
  obtain hp | hp := Bool.eq_false_or_eq_true (testPressed s t)
  · rw [pollTestBody_of_press hp]
    exact { h with test := .disarmed h.admitted, test_evt := fun hpc => (hpc rfl).elim }
  · rw [pollTestBody_of_no_press hp]
    exact { h with test_evt := fun hpc => (hpc rfl).elim }

/-- The start of an Active phase, from a level in range (44_cycle_fsm.md R144, R150). -/
theorem BlockInv.startActive {s : State} (h : BlockInv s) : BlockInv (startActive s) := by
  obtain ⟨hspc1, hspc2⟩ := stepsPerCycle_bounds h.admitted h.level_pos h.level_le
  have hspc := wrap_stepsPerCycle h.admitted h.level_pos h.level_le
  exact { h with
    busy_iff := ⟨fun _ => rfl, fun _ => rfl⟩
    pause_done := nofun
    steps_le := fun _ => .inl le_rfl
    spc_pos := hspc1.trans hspc.ge
    spc_le := hspc.le.trans hspc2
    threshold_fits := stepIntervalFor_fits s.testMode h.admitted h.level_pos h.level_le
    step_iv_lt := wrap_lt _ _ }

theorem BlockInv.svcAlarmBody {s : State} (h : BlockInv s) (home : s.ctrlPc = .sAlarm) :
    BlockInv (svcAlarmBody s) := by
  have noTest : s.testEvt = false := h.test_evt (by simp [home])
  obtain ⟨-, he⟩ | ⟨-, active, -, he⟩ | ⟨-, -, noSteps, he⟩ | ⟨-, -, he⟩ := svcAlarmBody_cases s <;> rw [he]
  · exact { h with test_evt := fun _ => noTest }
  · exact { h with
      pause_done := fun paused => by simp [active] at paused
      steps_le := fun _ => (h.steps_le active).imp (Nat.sub_le _ _).trans (And.imp_right (Nat.sub_le _ _).trans)
      test_evt := fun _ => noTest }
  · exact { h with
      busy_iff := ⟨nofun, nofun⟩
      pause_done := fun _ => noSteps
      steps_le := nofun
      test_evt := fun _ => noTest }
  · exact { h.startActive with test_evt := fun _ => noTest }

theorem BlockInv.displayRestart {s : State} (h : BlockInv s) : BlockInv (displayRestart s) := by
  obtain ⟨-, -, -, -, -, -, -, -, hdisp, hper, -⟩ := admitted_iff.mp h.admitted
  exact { h with disp_cnt_lt := hdisp, disp_sec_lt := hper, disp_off := nofun }

theorem BlockInv.svcUpBody {s : State} (h : BlockInv s) (home : s.ctrlPc = .sUp) :
    BlockInv (svcUpBody s) := by
  have noTest : s.testEvt = false := h.test_evt (by simp [home])
  obtain event | event := Bool.eq_false_or_eq_true s.upEvt
  · rw [svcUpBody_of_event event]
    obtain ⟨-, -, -, -, -, -, -, -, -, -, -, -, -, -, -, -, -, hlevelW⟩ := admitted_iff.mp h.admitted
    have hpos := h.level_pos
    have hle := h.level_le
    have hwrap (hlt : s.level < s.cfg.stepLevels) : wrap s.cfg.levelW (s.level + 1) = s.level + 1 :=
      wrap_of_lt (by omega)
    refine { h.displayRestart with
      level_pos := ?_, level_le := ?_, test_evt := fun _ => noTest } <;> dsimp only <;> split
    next up => rw [hwrap up.2]; omega
    next => exact hpos
    next up => rw [hwrap up.2]; exact up.2
    next => exact hle
  · rw [svcUpBody_of_no_event event]
    exact { h with test_evt := fun _ => noTest }

theorem BlockInv.svcDownBody {s : State} (h : BlockInv s) (home : s.ctrlPc = .sDown) :
    BlockInv (svcDownBody s) := by
  have noTest : s.testEvt = false := h.test_evt (by simp [home])
  obtain event | event := Bool.eq_false_or_eq_true s.downEvt
  · rw [svcDownBody_of_event event]
    have hpos := h.level_pos
    have hle := h.level_le
    refine { h.displayRestart with
      level_pos := ?_, level_le := ?_, test_evt := fun _ => noTest } <;> dsimp only <;> split <;> omega
  · rw [svcDownBody_of_no_event event]
    exact { h with test_evt := fun _ => noTest }

theorem BlockInv.svcTestBody {s : State} (h : BlockInv s) : BlockInv (svcTestBody s) := by
  obtain event | event := Bool.eq_false_or_eq_true s.testEvt
  · obtain on | off := Bool.eq_false_or_eq_true s.testMode
    · rw [svcTestBody_leave event on]
      exact { h.displayRestart with
        threshold_fits := stepIntervalFor_fits false h.admitted h.level_pos h.level_le
        step_iv_lt := wrap_lt _ _
        test_evt := fun _ => rfl }
    · rw [svcTestBody_enter event off]
      exact { h.displayRestart with test_evt := fun _ => rfl }
  · rw [svcTestBody_of_no_event event]
    exact { h with test_evt := fun _ => event }

/-- In a state that meets the invariant the level is a digit, so RENDER rejects nothing
(45_display_decoder.md R166). -/
theorem BlockInv.level_lt_ten {s : State} (h : BlockInv s) : s.level < 10 := by
  obtain ⟨-, -, hlevels, -⟩ := admitted_iff.mp h.admitted
  have := h.level_le
  omega

theorem BlockInv.renderBody {s : State} (h : BlockInv s) (home : s.ctrlPc = .sRender) :
    BlockInv (renderBody s) := by
  have noTest : s.testEvt = false := h.test_evt (by simp [home])
  obtain on | off := Bool.eq_false_or_eq_true s.dispOn
  · rw [renderBody_accept on (decodeDigit_of_lt _ h.level_lt_ten)]
    exact { h with test_evt := fun _ => noTest }
  · rw [renderBody_off off]
    exact { h with test_evt := fun _ => noTest }

theorem BlockInv.effect {i : Instr} {s : State} (h : BlockInv s) (he : Enabled i s) : BlockInv (effect i s) := by
  cases i with
  | ovf => exact h.cycleTimerStep.prescalerStep.wake
  | edgeUp => exact h.captureUp.wake
  | edgeDown => exact h.captureDown.wake
  | svcAlarm => exact h.svcAlarmBody (he _ rfl)
  | svcUp => exact h.svcUpBody (he _ rfl)
  | svcDown => exact h.svcDownBody (he _ rfl)
  | pollTest t => exact h.pollTestBody t
  | svcTest => exact h.svcTestBody
  | render => exact h.renderBody (he _ rfl)
  | idle => exact { h with test_evt := fun _ => h.test_evt (by simp [he _ rfl]) }
  | reset => exact { blockInv_resetOf h.admitted h.two_levels with }

/-- Every operation keeps the invariant, in sequence or not. -/
theorem BlockInv.exec {i : Instr} {s t : State} (h : BlockInv s) (ht : exec i s = .next t) : BlockInv t := by
  obtain ⟨he, rfl⟩ | ⟨-, -, rfl⟩ := exec_cases ht
  · exact h.effect he
  · exact { h with }

end Sys2Proof.Machine

namespace Sys2Proof
open Machine

/-- Settles O53: RESET loads a state that meets the invariant. -/
theorem invariantAfterEveryReset : Obligations.InvariantAfterEveryReset :=
  fun _ => blockInv_resetOf

/-- Settles O52: the reference configuration is admitted and has more than one level step. -/
theorem invariantAtReset : Obligations.InvariantAtReset :=
  blockInv_resetOf (by decide) (by decide)

/-- Settles O54: the state an operation is run from differs from `s` only in the stream, the draws and the
report, which the invariant does not read; the operation keeps it, and so does a refusal. -/
theorem everyStepKeepsTheInvariant : Obligations.EveryStepKeepsTheInvariant := by
  intro s t h ht
  obtain ⟨i, s', hf, hexec⟩ | ⟨r, s', hf, rfl⟩ := step_cases ht
  · obtain ⟨-, hs'⟩ := fetch_run hf
    have h' : BlockInv s' := by
      rw [hs']
      exact { h with }
    exact h'.exec hexec
  · obtain ⟨-, rfl⟩ | ⟨-, -, rfl⟩ := fetch_reject hf
    · exact { h with }
    · exact { h with }

/-- Settles O48: the next state meets the invariant, so `render_err` is clear, and an enabled operation does
not write `refused`. -/
theorem enabledOperationsStayGood : Obligations.EnabledOperationsStayGood := by
  intro i s t h enabled ht good
  obtain ⟨-, same, -⟩ := effect_outcome i s
  obtain rfl : effect i s = t := by simpa [exec_of_enabled enabled] using ht
  have noErr := (h.effect enabled).no_render_err
  have notRefused : s.refused = false := by simp_all [State.good]
  simp [State.good, noErr, same, notRefused]

end Sys2Proof

/-! ### OVF, register by register, and its parts in any order (40_tick_source.md R100 to R105,
42_cycle_timer.md R121 to R125) -/

namespace Sys2Proof.Machine

/-- The display registers after one ms tick, from their values before it (43_display_timeout.md R131). -/
def displayNext (c : Config) (on : Bit) (cnt sec : Nat) : Bit × Nat × Nat :=
  if on = true then
    if incr c.dispW cnt = c.displayMs then
      if incr c.dsecW sec = c.dispPeriods then (false, 0, 0) else (true, 0, incr c.dsecW sec)
    else (true, incr c.dispW cnt, sec)
  else (on, cnt, sec)

/-- The display step reads and writes the three display registers only. -/
theorem displayStep_eq (s : State) :
    displayStep s = { s with
      dispOn := (displayNext s.cfg s.dispOn s.dispCnt s.dispSec).1
      dispCnt := (displayNext s.cfg s.dispOn s.dispCnt s.dispSec).2.1
      dispSec := (displayNext s.cfg s.dispOn s.dispCnt s.dispSec).2.2 } := by
  obtain ⟨h0, he⟩ | ⟨h0, h1, he⟩ | ⟨h0, h1, h2, he⟩ | ⟨h0, h1, h2, he⟩ := displayStep_cases s <;> rw [he]
  · rw [displayNext, if_neg (Bool.eq_false_iff.mp h0)]
  · simp [displayNext, h0, h1]
  · simp [displayNext, h0, h1, h2]
  · simp [displayNext, h0, h1, h2]

/-- A display that is off stays off. -/
theorem displayNext_off (c : Config) (cnt sec : Nat) : displayNext c false cnt sec = (false, cnt, sec) := rfl

/-- An armed button stays armed, with its count. -/
theorem debounceNext_armed (c : Config) (deb : Nat) : debounceNext c true deb = (true, deb) := rfl

theorem debounceNext_disarmed (c : Config) (deb : Nat) :
    debounceNext c false deb = if incr c.debW deb = c.debounceMs then (true, 0) else (false, incr c.debW deb) := rfl

/-- The state after OVF, register by register: the handler's, with the wake. -/
theorem effect_ovf (s : State) :
    effect .ovf s = { ovfHandler s with ctrlPc := if s.ctrlPc = .sWait then .sAlarm else s.ctrlPc } := by
  rw [effect, wake_eq, ovfHandler_eq]

theorem effect_ovf_cycCnt (s : State) :
    (effect .ovf s).cycCnt =
      if incr s.cfg.cycW s.cycCnt = cycleThreshold s then 0 else incr s.cfg.cycW s.cycCnt := by
  rw [effect_ovf, ← ovfHandler_cycCnt]

theorem effect_ovf_alarm (s : State) :
    (effect .ovf s).alarm = (s.alarm || decide (incr s.cfg.cycW s.cycCnt = cycleThreshold s)) := by
  rw [effect_ovf, ← ovfHandler_alarm]

theorem effect_ovf_preCnt (s : State) :
    (effect .ovf s).preCnt = if s.preCnt + 1 = s.cfg.tpm then 0 else wrap s.cfg.preW (s.preCnt + 1) := by
  rw [effect_ovf, ovfHandler_eq]

/-- The display registers move on the OVF that makes an ms tick. -/
theorem effect_ovf_display (s : State) :
    ((effect .ovf s).dispOn, (effect .ovf s).dispCnt, (effect .ovf s).dispSec) =
      if s.preCnt + 1 = s.cfg.tpm then displayNext s.cfg s.dispOn s.dispCnt s.dispSec
      else (s.dispOn, s.dispCnt, s.dispSec) := by
  rw [effect_ovf, ovfHandler_eq, displayStep_eq]
  split <;> rfl

/-- A button's registers move on the OVF that makes an ms tick. -/
theorem effect_ovf_up (s : State) :
    ((effect .ovf s).upArmed, (effect .ovf s).debUp) =
      if s.preCnt + 1 = s.cfg.tpm then debounceNext s.cfg s.upArmed s.debUp else (s.upArmed, s.debUp) := by
  rw [effect_ovf, ovfHandler_eq]
  split <;> rfl

theorem effect_ovf_down (s : State) :
    ((effect .ovf s).downArmed, (effect .ovf s).debDown) =
      if s.preCnt + 1 = s.cfg.tpm then debounceNext s.cfg s.downArmed s.debDown else (s.downArmed, s.debDown) := by
  rw [effect_ovf, ovfHandler_eq]
  split <;> rfl

theorem effect_ovf_test (s : State) :
    ((effect .ovf s).testArmed, (effect .ovf s).debTest) =
      if s.preCnt + 1 = s.cfg.tpm then debounceNext s.cfg s.testArmed s.debTest else (s.testArmed, s.debTest) := by
  rw [effect_ovf, ovfHandler_eq]
  split <;> rfl

/-- OVF writes nothing the threshold is computed from (42_cycle_timer.md R120). -/
theorem cycleThreshold_effect_ovf (s : State) : cycleThreshold (effect .ovf s) = cycleThreshold s := by
  rw [effect_ovf, ovfHandler_eq]
  rfl

theorem exec_ovf_eq_effect (s : State) : exec .ovf s = .next (effect .ovf s) := rfl

/-- A row of overflows is one, and then the rest of the row. -/
theorem runOps_replicate_ovf_succ (n : Nat) (s : State) :
    runOps (List.replicate (n + 1) .ovf) s = runOps (List.replicate n .ovf) (effect .ovf s) := rfl

end Sys2Proof.Machine

namespace Sys2Proof
open Machine

/-- Settles O15, by whether the next count is the threshold. -/
theorem ovfRunsTheCycleTimer : Obligations.OvfRunsTheCycleTimer := by
  intro s
  refine ⟨_, exec_ovf_eq_effect s, fun hmatch => ?_, fun noMatch => ?_⟩
  · have hmatch : incr s.cfg.cycW s.cycCnt = cycleThreshold s := hmatch
    simp [effect_ovf_cycCnt, effect_ovf_alarm, hmatch]
  · have noMatch : incr s.cfg.cycW s.cycCnt ≠ cycleThreshold s := noMatch
    rw [effect_ovf_cycCnt, effect_ovf_alarm, if_neg noMatch, decide_eq_false noMatch, Bool.or_false]
    exact ⟨rfl, rfl⟩

/-- Settles O17, by whether the OVF makes an ms tick and whether the display is on. -/
theorem ovfPrescalesAndTimesTheDisplay : Obligations.OvfPrescalesAndTimesTheDisplay := by
  intro s
  refine ⟨_, exec_ovf_eq_effect s, effect_ovf_preCnt s, ?_⟩
  rw [effect_ovf_display]
  by_cases htick : s.preCnt + 1 = s.cfg.tpm
  · cases hon : s.dispOn
    · simp [htick, displayNext_off]
    · rw [if_pos htick, if_pos ⟨htick, rfl⟩]
      rfl
  · simp [htick]

/-- Settles O18: each button goes by the one re-arm step, on an ms tick. -/
theorem ovfRearmsTheButtons : Obligations.OvfRearmsTheButtons := by
  intro s
  have after (armed : Bit) (deb : Nat) :
      (if s.preCnt + 1 = s.cfg.tpm then debounceNext s.cfg armed deb else (armed, deb)) =
        if s.preCnt + 1 = s.cfg.tpm ∧ armed = false then
          if (deb + 1) % 2 ^ s.cfg.debW = s.cfg.debounceMs then (true, 0)
          else (false, (deb + 1) % 2 ^ s.cfg.debW)
        else (armed, deb) := by
    by_cases htick : s.preCnt + 1 = s.cfg.tpm
    · cases armed
      · rw [if_pos htick, if_pos ⟨htick, rfl⟩]
        rfl
      · simp [htick, debounceNext_armed]
    · simp [htick]
  exact ⟨_, exec_ovf_eq_effect s, (effect_ovf_up s).trans (after _ _), (effect_ovf_down s).trans (after _ _),
    (effect_ovf_test s).trans (after _ _)⟩

/-- Settles O19: the handler's equation is the frame, and each flag it writes goes one way only. -/
theorem ovfFrameAndWake : Obligations.OvfFrameAndWake := by
  intro s
  refine ⟨_, exec_ovf_eq_effect s, ?_, fun alarm => ?_, fun off => ?_, fun armed => ?_, fun armed => ?_,
    fun armed => ?_⟩ <;> rw [effect_ovf, ovfHandler_eq]
  · simp only [alarm, Bool.true_or]
  · simp [displayStep_eq, displayNext_off, off]
  · simp [debounceNext_armed, armed]
  · simp [debounceNext_armed, armed]
  · simp [debounceNext_armed, armed]

/-- Settles O20: by their equations each part reads and writes registers of its own, and the threshold is
read from registers that no part writes. -/
theorem ovfPartsCommute : Obligations.OvfPartsCommute := by
  intro s
  refine ⟨?_, ?_, ?_, ?_, ?_, ?_, ?_, rfl, rfl, rfl⟩
  · simp only [prescalerStep_eq, cycleTimerStep_eq, displayStep_eq]; rfl
  · simp only [wake_eq, cycleTimerStep_eq]; rfl
  · simp only [wake_eq, prescalerStep_eq, displayStep_eq]
  · simp only [wake_eq, ovfHandler_eq, displayStep_eq]; rfl
  · simp only [debounceUp, displayStep_eq]
  · simp only [debounceDown, displayStep_eq]
  · simp only [debounceTest, displayStep_eq]

/-- Settles O21, by induction on the number of overflows: the first either matches, and the count restarts,
or moves the count one nearer to the threshold. -/
theorem alarmEveryThreshold : Obligations.AlarmEveryThreshold := by
  intro s n
  induction n generalizing s with
  | zero =>
    intro hpos hlt
    exact ⟨s, rfl, (Nat.mod_eq_of_lt hlt).symm, by simp [hlt]⟩
  | succ n ih =>
    intro hpos hlt
    have hthr := cycleThreshold_effect_ovf s
    have hincr : incr s.cfg.cycW s.cycCnt = s.cycCnt + 1 := incr_of_lt (lt_of_le_of_lt hlt (wrap_lt _ _))
    have hcnt := effect_ovf_cycCnt s
    have halarm := effect_ovf_alarm s
    rw [hincr] at hcnt halarm
    obtain ⟨t, hrun, hcyc, hal⟩ := ih (effect .ovf s) (hthr ▸ hpos) (by rw [hthr, hcnt]; split <;> omega)
    refine ⟨t, (runOps_replicate_ovf_succ n s).trans hrun, ?_, ?_⟩
    · rw [hcyc, hthr, hcnt]
      split
      next hmatch => rw [← add_assoc, add_right_comm, hmatch, zero_add, Nat.add_mod_left]
      next => rw [add_assoc, add_comm 1 n]
    · rw [hal, hthr, hcnt, halarm, Bool.or_eq_true, decide_eq_true_iff, or_assoc]
      refine or_congr_right ?_
      split <;> omega

/-- Settles O22, by induction on the number of overflows: above the threshold the count only goes up; at the
wrap it is 0, which is a match if the threshold is 0, and else the count is below the threshold. -/
theorem missedThresholdWaitsForTheWrap : Obligations.MissedThresholdWaitsForTheWrap := by
  intro s n
  induction n generalizing s with
  | zero =>
    intro noAlarm hlt _ _
    exact ⟨s, rfl, iff_of_false (by simp [noAlarm]) (by omega)⟩
  | succ n ih =>
    intro noAlarm hlt hmissed hn
    have hthr := cycleThreshold_effect_ovf s
    have hcfg := (effect_outcome .ovf s).1
    have hcnt := effect_ovf_cycCnt s
    have halarm := effect_ovf_alarm s
    rw [noAlarm, Bool.false_or] at halarm
    by_cases hwrap : s.cycCnt + 1 < 2 ^ s.cfg.cycW
    · have noMatch : s.cycCnt + 1 ≠ cycleThreshold s := by omega
      rw [incr_of_lt hwrap] at hcnt halarm
      rw [if_neg noMatch] at hcnt
      rw [decide_eq_false noMatch] at halarm
      obtain ⟨t, hrun, hal⟩ := ih (effect .ovf s) halarm (by rw [hcnt, hcfg]; exact hwrap)
        (by rw [hthr, hcnt]; omega) (by rw [hthr, hcnt, hcfg]; omega)
      rw [hthr, hcnt, hcfg] at hal
      exact ⟨t, (runOps_replicate_ovf_succ n s).trans hrun, hal.trans (by omega)⟩
    · have hfull : s.cycCnt + 1 = 2 ^ s.cfg.cycW := by omega
      have hzero : incr s.cfg.cycW s.cycCnt = 0 := by rw [incr, hfull, wrap, Nat.mod_self]
      rw [hzero] at hcnt halarm
      obtain hthr0 | hpos := Nat.eq_zero_or_pos (cycleThreshold s)
      · obtain rfl : n = 0 := by omega
        exact ⟨effect .ovf s, rfl, iff_of_true (by rw [halarm, hthr0]; rfl) (by omega)⟩
      · rw [decide_eq_false hpos.ne] at halarm
        rw [if_neg hpos.ne] at hcnt
        obtain ⟨t, hrun, -, hal⟩ :=
          alarmEveryThreshold (effect .ovf s) n (hthr ▸ hpos) (by rw [hthr, hcnt]; exact hpos)
        rw [hthr, hcnt, halarm] at hal
        refine ⟨t, (runOps_replicate_ovf_succ n s).trans hrun, hal.trans ?_⟩
        rw [or_iff_right Bool.false_ne_true]
        omega

/-- Settles O49: the alarm the match raises is seen by an IDLE after it, and wakes the sequencer after an
IDLE before it. -/
theorem ovfAndIdleInEitherOrder : Obligations.OvfAndIdleInEitherOrder := by
  intro s home hmatch
  have hmatch : incr s.cfg.cycW s.cycCnt = cycleThreshold s := hmatch
  have raised (u : State) (h : incr u.cfg.cycW u.cycCnt = cycleThreshold u) : (effect .ovf u).alarm = true := by
    rw [effect_ovf_alarm, decide_eq_true h, Bool.or_true]
  have hpc : (effect .ovf s).ctrlPc = .sIdle := by simp [effect_ovf, home]
  refine ⟨idleBody (effect .ovf s), effect .ovf (idleBody s), ?_, ?_, ?_, raised s hmatch, ?_,
    raised (idleBody s) hmatch⟩
  · rw [runOps_cons (exec_ovf_eq_effect s), runOps_cons (exec_idle_home hpc), runOps]
  · rw [runOps_cons (exec_idle_home home), runOps_cons (exec_ovf_eq_effect _), runOps]
  · simp [idleBody, anyPending, raised s hmatch]
  · simp only [effect_ovf, idleBody, goto_ctrlPc]
    split <;> simp

end Sys2Proof

/-! ### Which registers an operation writes, and what it does to the cycle and to the sequencer
(10_state.md section 7, 44_cycle_fsm.md R153, R154, 46_main_loop.md R170 to R176) -/

namespace Sys2Proof
open Machine

/-- Settles O42: the frame of each operation's effect names all it writes, and a refusal writes only
`refused` and the report. -/
theorem registerWriters : Obligations.RegisterWriters := by
  intro i s t ht notReset
  obtain ⟨-, rfl⟩ | ⟨-, -, rfl⟩ := exec_cases ht
  · cases i with
    | ovf => rw [effect_ovf, ovfHandler_eq]; simp +contextual [Instr.agent]
    | edgeUp => rw [effect, captureUp_frame]; simp +contextual [Instr.agent]
    | edgeDown => rw [effect, captureDown_frame]; simp +contextual [Instr.agent]
    | svcAlarm =>
      obtain ⟨-, h⟩ | ⟨-, -, -, h⟩ | ⟨-, -, -, h⟩ | ⟨-, -, h⟩ := svcAlarmBody_cases s <;>
        rw [effect, h] <;> simp [startActive, Instr.agent]
    | svcUp => rw [effect, svcUpBody_frame]; simp [Instr.agent]
    | svcDown => rw [effect, svcDownBody_frame]; simp [Instr.agent]
    | pollTest l => rw [effect, pollTestBody_frame]; simp [Instr.agent]
    | svcTest => rw [effect, svcTestBody_frame]; simp [Instr.agent]
    | render => rw [effect, renderBody_frame]; simp [Instr.agent]
    | idle => simp [effect, idleBody, Instr.agent]
    | reset => exact absurd rfl notReset
  · simp

end Sys2Proof

namespace Sys2Proof.Machine

/-- The four things an operation other than RESET can do to the cycle: nothing, one STEP, the end of an
Active phase and the start of one (44_cycle_fsm.md R140, R153). -/
theorem exec_cycle_cases {i : Instr} {s t : State} (ht : exec i s = .next t) (hi : i ≠ .reset) :
    (t.phase = s.phase ∧ t.stepsRem = s.stepsRem ∧ t.dirQ = s.dirQ ∧ t.outLog = s.outLog) ∨
    (s.phase = .active ∧ t.phase = .active ∧ t.stepsRem + 1 = s.stepsRem ∧ t.dirQ = s.dirQ ∧
      t.outLog = s.outLog ++ [.step]) ∨
    (s.phase = .active ∧ t.phase = .pause ∧ s.stepsRem = 0 ∧ t.dirQ = s.dirQ ∧ t.outLog = s.outLog) ∨
    (s.phase = .pause ∧ t.phase = .active ∧ t.dirQ = (!s.dirQ) ∧ t.outLog = s.outLog) := by
  by_cases hsvc : i = .svcAlarm
  · subst hsvc
    obtain ⟨-, rfl⟩ | ⟨-, -, rfl⟩ := exec_cases ht
    · rw [effect]
      obtain ⟨-, h⟩ | ⟨-, hp, hs, h⟩ | ⟨-, hp, hs, h⟩ | ⟨-, hp, h⟩ := svcAlarmBody_cases s <;> rw [h]
      · exact .inl ⟨rfl, rfl, rfl, rfl⟩
      · exact .inr (.inl ⟨hp, hp, Nat.sub_add_cancel hs, rfl, rfl⟩)
      · exact .inr (.inr (.inl ⟨hp, rfl, hs, rfl, rfl⟩))
      · exact .inr (.inr (.inr ⟨hp, rfl, rfl, rfl⟩))
    · exact .inl ⟨rfl, rfl, rfl, rfl⟩
  · obtain ⟨-, -, -, -, -, -, -, -, -, -, cycle, -⟩ := registerWriters i s t ht hi
    have same := mt cycle hsvc
    simp only [not_or, not_not] at same
    obtain ⟨hphase, hsteps, -, hdir, -, hlog⟩ := same
    exact .inl ⟨hphase, hsteps, hdir, hlog⟩

end Sys2Proof.Machine

namespace Sys2Proof
open Machine

/-- Settles O43, by the four things an operation can do to the cycle. -/
theorem directionInvertsOnlyIntoActive : Obligations.DirectionInvertsOnlyIntoActive := by
  intro i s t ht notReset
  obtain ⟨hphase, -, hdir, -⟩ | ⟨hs, -, -, hdir, -⟩ | ⟨hs, -, -, hdir, -⟩ | ⟨hs, hactive, hdir, -⟩ :=
    exec_cycle_cases ht notReset
  · simp +contextual [hdir, hphase]
  · simp [hdir, hs]
  · simp [hdir, hs]
  · simp [hdir, hs, hactive]

/-- Settles O44, by the four things an operation can do to the cycle. -/
theorem stepsAreCountedOff : Obligations.StepsAreCountedOff := by
  intro i s t ht notReset
  obtain ⟨hphase, hrem, -, hlog⟩ | ⟨hs, hactive, hrem, -, hlog⟩ | ⟨hs, hpause, hrem, -, hlog⟩ |
    ⟨hs, hactive, -, hlog⟩ := exec_cycle_cases ht notReset
  · exact ⟨0, by omega, by simp [hlog], fun _ => rfl, fun _ _ => hrem, fun ha hp => by simp [hphase, ha] at hp⟩
  · exact ⟨1, le_rfl, hlog, by simp [hs], fun _ _ => hrem, by simp [hactive]⟩
  · exact ⟨0, by omega, by simp [hlog], by simp [hs], by simp [hpause], fun _ _ => ⟨hrem, rfl⟩⟩
  · exact ⟨0, by omega, by simp [hlog], by simp [hs], by simp [hs], by simp [hs]⟩

/-- Settles O45, by induction on the list: each operation of the phase counts off what it emits, and the
operation that ends the phase finds no step left. -/
theorem activePhaseEmitsItsSteps : Obligations.ActivePhaseEmitsItsSteps := by
  intro is i s u t noReset notReset stays hrun hexec hpause
  induction is generalizing s with
  | nil =>
    obtain rfl : s = u := by simpa [runOps] using hrun
    have active : s.phase = .active := stays 0 s rfl
    obtain ⟨k, -, hlog, -, -, ends⟩ := stepsAreCountedOff i s t hexec notReset
    obtain ⟨hrem, rfl⟩ := ends active hpause
    rw [hlog, hrem]
  | cons j is ih =>
    obtain ⟨v, hv, hrest⟩ := runOps_cons_eq_next.mp hrun
    have stays' (k : Nat) (w : State) (hw : runOps (is.take k) v = .next w) : w.phase = .active :=
      stays (k + 1) w (by rw [List.take_succ_cons, runOps_cons hv, hw])
    obtain ⟨k, -, hlog, -, counts, -⟩ := stepsAreCountedOff j s v hv (noReset j List.mem_cons_self)
    have hrem := counts (stays 0 s rfl) (stays' 0 v rfl)
    rw [ih v (fun j hj => noReset j (List.mem_cons_of_mem _ hj)) stays' hrest, hlog, List.append_assoc,
      List.replicate_append_replicate, add_comm, hrem]

end Sys2Proof

namespace Sys2Proof.Machine

/-- Where the sequencer stands after an enabled operation (46_main_loop.md R170, R172, R174). -/
def nextPc (i : Instr) (s : State) : CtrlPc :=
  match i with
  | .ovf | .edgeUp | .edgeDown => if s.ctrlPc = .sWait then .sAlarm else s.ctrlPc
  | .svcAlarm => .sUp
  | .svcUp => .sDown
  | .svcDown => .sPoll
  | .pollTest _ => .sTsvc
  | .svcTest => .sRender
  | .render => .sIdle
  | .idle => if anyPending s then .sAlarm else .sWait
  | .reset => .sAlarm

theorem effect_ctrlPc (i : Instr) (s : State) : (effect i s).ctrlPc = nextPc i s := by
  cases i with
  | ovf => rw [effect_ovf]; rfl
  | edgeUp => rw [effect, wake_ctrlPc, captureUp_frame]; rfl
  | edgeDown => rw [effect, wake_ctrlPc, captureDown_frame]; rfl
  | svcAlarm => rfl
  | svcUp => rfl
  | svcDown => rfl
  | pollTest t => rfl
  | svcTest => rfl
  | render => rfl
  | idle => rfl
  | reset => rfl

/-- An operation is one of an interrupt, a CTRL micro-operation with a place other than S_WAIT, and RESET. -/
theorem agent_cases (i : Instr) :
    i.agent = .irq ∨ (i.agent = .ctrl ∧ ∃ p, homePc i = some p ∧ p ≠ .sWait) ∨ i = .reset := by
  cases i <;> simp [Instr.agent, homePc]

/-- An interrupt wakes the sequencer, and does not move it otherwise (46_main_loop.md R174). -/
theorem nextPc_of_irq {i : Instr} (s : State) (h : i.agent = .irq) :
    nextPc i s = if s.ctrlPc = .sWait then .sAlarm else s.ctrlPc := by
  cases i <;> simp_all [Instr.agent, nextPc]

/-- Only IDLE leads to the wait (46_main_loop.md R172). -/
theorem eq_idle_of_nextPc {i : Instr} {s : State} (hs : s.ctrlPc ≠ .sWait) (h : nextPc i s = .sWait) :
    i = .idle := by
  cases i <;> simp_all [nextPc]

/-- RENDER leaves a `render_err` that is set (45_display_decoder.md R163). -/
theorem renderBody_keeps_renderErr {s : State} (h : s.renderErr = true) : (renderBody s).renderErr = true := by
  unfold renderBody
  split
  · split
    · rfl
    · exact h
  · exact h

end Sys2Proof.Machine

namespace Sys2Proof
open Machine

/-- Settles O46, by the agent of the operation: no CTRL micro-operation has its place in S_WAIT, so there
each is refused. -/
theorem waitIsEnteredByIdleAndLeftByInterrupt : Obligations.WaitIsEnteredByIdleAndLeftByInterrupt := by
  intro i s t ht
  obtain ⟨enabled, rfl⟩ | ⟨-, ctrl, rfl⟩ := exec_cases ht
  · rw [effect_ctrlPc]
    refine ⟨eq_idle_of_nextPc, fun waiting => ?_⟩
    obtain irq | ⟨-, p, home, notWait⟩ | rfl := agent_cases i
    · simp [nextPc_of_irq s irq, waiting, irq]
    · exact absurd ((enabled p home).symm.trans waiting) notWait
    · simp [nextPc]
  · have notReset : i ≠ .reset := by rintro rfl; cases ctrl
    simp +contextual [ctrl, notReset]

/-- Settles O47: only RENDER, which at most sets it, and RESET write `render_err`, and no operation clears
`refused`. -/
theorem goneWrongFlagsAreSticky : Obligations.GoneWrongFlagsAreSticky := by
  intro i s t ht
  constructor
  · intro refused
    obtain ⟨-, rfl⟩ | ⟨-, -, rfl⟩ := exec_cases ht
    · rw [(effect_outcome i s).2.1, refused]
    · rfl
  · intro err
    by_cases hreset : i = .reset
    · subst hreset; cases ht
      exact iff_of_true rfl rfl
    · have kept : t.renderErr = true := by
        by_cases hrender : i = .render
        · subst hrender
          obtain ⟨-, rfl⟩ | ⟨-, -, rfl⟩ := exec_cases ht
          · exact renderBody_keeps_renderErr err
          · exact err
        · obtain ⟨-, -, -, -, -, -, -, -, -, -, -, -, -, -, display, -⟩ := registerWriters i s t ht hreset
          have same := mt display hrender
          simp only [not_or, not_not] at same
          rw [same.2, err]
      simp [kept, hreset]

end Sys2Proof

/-! ### Fair runs (46_main_loop.md R175, R176) -/

namespace Sys2Proof.Machine

/-- How many places lie between a place of the sequence and S_ALARM, the wait being the last. -/
def placesToAlarm : CtrlPc → Nat
  | .sAlarm => 0
  | .sWait => 1
  | .sIdle => 2
  | .sRender => 3
  | .sTsvc => 4
  | .sPoll => 5
  | .sDown => 6
  | .sUp => 7

/-- What moves a sequencer that is not at S_ALARM: an overflow in the wait, its own step elsewhere. -/
def Moves (p : CtrlPc) (i : Instr) : Prop := if p = .sWait then i = .ovf else i.agent = .ctrl

theorem placesToAlarm_pos {p : CtrlPc} (h : p ≠ .sAlarm) : 0 < placesToAlarm p := by
  cases p <;> simp_all [placesToAlarm]

/-- A CTRL operation at its place, away from S_ALARM, goes to a nearer place (46_main_loop.md R170). -/
theorem nextPc_of_ctrl {i : Instr} {s : State} (hi : i.agent = .ctrl) (he : Enabled i s)
    (hs : s.ctrlPc ≠ .sAlarm) : placesToAlarm (nextPc i s) < placesToAlarm s.ctrlPc := by
  cases i with
  | svcAlarm => exact absurd (he _ rfl) hs
  | svcUp => simp [nextPc, placesToAlarm, he _ rfl]
  | svcDown => simp [nextPc, placesToAlarm, he _ rfl]
  | pollTest t => simp [nextPc, placesToAlarm, he _ rfl]
  | svcTest => simp [nextPc, placesToAlarm, he _ rfl]
  | render => simp [nextPc, placesToAlarm, he _ rfl]
  | idle => rw [nextPc, he _ rfl]; split <;> simp [placesToAlarm]
  | _ => cases hi

/-- Away from S_ALARM an enabled operation brings the sequencer nearer to it, or does not move it; an
operation that moves it brings it nearer. -/
theorem nextPc_nearer {i : Instr} {s : State} (he : Enabled i s) (hs : s.ctrlPc ≠ .sAlarm) :
    placesToAlarm (nextPc i s) < placesToAlarm s.ctrlPc ∨ (nextPc i s = s.ctrlPc ∧ ¬ Moves s.ctrlPc i) := by
  obtain irq | ⟨ctrl, -⟩ | rfl := agent_cases i
  · rw [nextPc_of_irq s irq]
    split
    next => exact .inl (placesToAlarm_pos hs)
    next awake => exact .inr ⟨rfl, by simp [Moves, awake, irq]⟩
  · exact .inl (nextPc_of_ctrl ctrl he hs)
  · exact .inl (placesToAlarm_pos hs)

variable {states : Nat → State} {ops : Nat → Instr}

theorem IsRun.ctrlPc_succ (h : IsRun states ops) (n : Nat) :
    (states (n + 1)).ctrlPc = nextPc (ops n) (states n) := by
  have hnext := (h.steps n).symm.trans (exec_of_enabled (h.enabled n))
  rw [← effect_ctrlPc, Host.Outcome.next.inj hnext]

/-- Up to an operation that moves it, the sequencer is where it was, or has come nearer to S_ALARM. -/
theorem IsRun.nearer_of_moves (h : IsRun states ops) {n d : Nat} (hs : (states n).ctrlPc ≠ .sAlarm)
    (hm : Moves (states n).ctrlPc (ops (n + d))) :
    ∃ m, n ≤ m ∧ placesToAlarm (states m).ctrlPc < placesToAlarm (states n).ctrlPc := by
  induction d generalizing n with
  | zero =>
    obtain nearer | ⟨-, idle⟩ := nextPc_nearer (h.enabled n) hs
    · exact ⟨n + 1, by omega, by rwa [h.ctrlPc_succ]⟩
    · exact absurd hm idle
  | succ d ih =>
    obtain nearer | ⟨same, -⟩ := nextPc_nearer (h.enabled n) hs
    · exact ⟨n + 1, by omega, by rwa [h.ctrlPc_succ]⟩
    · rw [← h.ctrlPc_succ] at same
      obtain ⟨m, hle, hm⟩ := ih (n := n + 1) (by rwa [same]) (by rwa [same, add_right_comm, add_assoc])
      exact ⟨m, by omega, by rwa [same] at hm⟩

/-- On a fair run something moves the sequencer again. -/
theorem FairRun.exists_moves (h : FairRun states ops) (n : Nat) :
    ∃ d, Moves (states n).ctrlPc (ops (n + d)) := by
  unfold Moves
  split
  next =>
    obtain ⟨m, hle, hm⟩ := h.ovf_forever n
    exact ⟨m - n, by rwa [Nat.add_sub_cancel' hle]⟩
  next awake =>
    obtain ⟨m, hle, hm⟩ := h.ctrl_steps n awake
    exact ⟨m - n, by rwa [Nat.add_sub_cancel' hle]⟩

/-- On a fair run the sequencer comes to S_ALARM, by induction on the places that lie before it. -/
theorem FairRun.reaches_alarm (h : FairRun states ops) (n : Nat) : ∃ m, n ≤ m ∧ (states m).ctrlPc = .sAlarm := by
  induction hr : placesToAlarm (states n).ctrlPc using Nat.strong_induction_on generalizing n with
  | _ r ih =>
    by_cases hs : (states n).ctrlPc = .sAlarm
    · exact ⟨n, le_rfl, hs⟩
    · obtain ⟨d, hd⟩ := h.exists_moves n
      obtain ⟨m, hle, nearer⟩ := h.run.nearer_of_moves hs hd
      obtain ⟨k, hk, halarm⟩ := ih _ (hr ▸ nearer) m rfl
      exact ⟨k, by omega, halarm⟩

/-- Only SVC_ALARM is a CTRL operation at S_ALARM; the other operations leave the sequencer there. -/
theorem at_alarm_cases {i : Instr} {s : State} (he : Enabled i s) (hs : s.ctrlPc = .sAlarm) :
    i = .svcAlarm ∨ (i.agent ≠ .ctrl ∧ nextPc i s = .sAlarm) := by
  obtain irq | ⟨-, p, home, -⟩ | rfl := agent_cases i
  · exact .inr ⟨by simp [irq], by simp [nextPc_of_irq s irq, hs]⟩
  · obtain rfl : p = .sAlarm := (he p home).symm.trans hs
    cases i <;> simp_all [homePc]
  · exact .inr ⟨by simp [Instr.agent], rfl⟩

/-- From S_ALARM the next CTRL operation is SVC_ALARM, there. -/
theorem IsRun.serves_alarm (h : IsRun states ops) {n d : Nat} (hs : (states n).ctrlPc = .sAlarm)
    (hd : (ops (n + d)).agent = .ctrl) : ∃ m, n ≤ m ∧ ops m = .svcAlarm ∧ (states m).ctrlPc = .sAlarm := by
  induction d generalizing n with
  | zero =>
    obtain serves | ⟨other, -⟩ := at_alarm_cases (h.enabled n) hs
    · exact ⟨n, le_rfl, serves, hs⟩
    · exact absurd hd other
  | succ d ih =>
    obtain serves | ⟨-, stays⟩ := at_alarm_cases (h.enabled n) hs
    · exact ⟨n, le_rfl, serves, hs⟩
    · obtain ⟨m, hle, hm⟩ := ih (n := n + 1) (by rw [h.ctrlPc_succ, stays]) (by rwa [add_right_comm, add_assoc])
      exact ⟨m, by omega, hm⟩

end Sys2Proof.Machine

namespace Sys2Proof
open Machine

/-- Settles O51: the sequencer comes to S_ALARM, and the CTRL step that fairness then gives is SVC_ALARM. -/
theorem fairRunsServeTheAlarm : Obligations.FairRunsServeTheAlarm := by
  intro states ops fair n
  obtain ⟨k, hk, halarm⟩ := fair.reaches_alarm n
  obtain ⟨m, hm, hctrl⟩ := fair.ctrl_steps k (by simp [halarm])
  obtain ⟨j, hj, hserves⟩ := fair.run.serves_alarm (d := m - k) halarm (by rwa [Nat.add_sub_cancel' hm])
  exact ⟨j, hk.trans hj, hserves⟩

end Sys2Proof

/-! ### Windows counted in ms ticks: the re-arm of a button and the blanking of the display
(41_input_capture.md R116, 43_display_timeout.md R133) -/

namespace Sys2Proof.Machine

/-- `P` holds of each operation of a run and the state it is run in. -/
def Along (P : Instr → State → Prop) (is : List Instr) (s : State) : Prop :=
  ∀ k i u, is[k]? = some i → runOps (is.take k) s = .next u → P i u

theorem Along.cons {P : Instr → State → Prop} {i : Instr} {is : List Instr} {s v : State}
    (h : Along P (i :: is) s) (hv : exec i s = .next v) : P i s ∧ Along P is v := by
  refine ⟨h 0 i s rfl rfl, fun k j u hj hu => h (k + 1) j u hj ?_⟩
  rw [List.take_succ_cons, runOps_cons hv, hu]

/-- What holds of every operation of the list holds along its run. -/
theorem along_of_forall {P : Instr → State → Prop} {is : List Instr} (s : State)
    (h : ∀ i ∈ is, ∀ u, P i u) : Along P is s :=
  fun _ i u hi _ => h i (List.mem_of_getElem? hi) u

/-- A window that runs while the flag `stopped` is 0: each ms tick takes one from `ticks`, the last one sets
the flag, and a `quiet` operation other than OVF leaves both. -/
structure MsCountdown (stopped : State → Bit) (ticks : State → Nat) (quiet : Instr → State → Prop) : Prop where
  pos : ∀ {s}, BlockInv s → stopped s = false → 1 ≤ ticks s
  ms_tick : ∀ {s}, BlockInv s → stopped s = false → s.preCnt + 1 = s.cfg.tpm →
    (ticks s = 1 ∧ stopped (effect .ovf s) = true) ∨
    (stopped (effect .ovf s) = false ∧ ticks (effect .ovf s) + 1 = ticks s)
  no_tick : ∀ {s}, stopped s = false → s.preCnt + 1 ≠ s.cfg.tpm →
    stopped (effect .ovf s) = false ∧ ticks (effect .ovf s) = ticks s
  hold : ∀ {i s t}, stopped s = false → exec i s = .next t → quiet i s → i ≠ .ovf →
    stopped t = false ∧ ticks t = ticks s
  no_reset : ∀ {i s}, quiet i s → i ≠ .reset

/-- The OVFs that a number of ms ticks takes from this state (40_tick_source.md R101). -/
def ovfsLeft (ticks : State → Nat) (s : State) : Nat := s.cfg.tpm * ticks s - s.preCnt

/-- In range, OVF counts the prescaler on without a cut. -/
theorem effect_ovf_preCnt_of_inv {s : State} (h : BlockInv s) :
    (effect .ovf s).preCnt = if s.preCnt + 1 = s.cfg.tpm then 0 else s.preCnt + 1 := by
  obtain ⟨-, -, -, -, -, -, -, -, -, -, -, -, -, -, -, -, hpre, -⟩ := admitted_iff.mp h.admitted
  have hlt := h.pre_lt
  rw [effect_ovf_preCnt]
  split
  next => rfl
  next => exact wrap_of_lt (by omega)

section
variable {stopped : State → Bit} {ticks : State → Nat} {quiet : Instr → State → Prop}

/-- Each OVF takes one from the OVFs left, and the last one stops the window. -/
theorem MsCountdown.ovf (c : MsCountdown stopped ticks quiet) {s : State} (h : BlockInv s)
    (hs : stopped s = false) :
    (ovfsLeft ticks s = 1 ∧ stopped (effect .ovf s) = true) ∨
    (stopped (effect .ovf s) = false ∧ ovfsLeft ticks (effect .ovf s) + 1 = ovfsLeft ticks s) := by
  obtain ⟨hcfg, -⟩ := effect_outcome .ovf s
  have hlt := h.pre_lt
  unfold ovfsLeft
  rw [hcfg, effect_ovf_preCnt_of_inv h]
  by_cases htick : s.preCnt + 1 = s.cfg.tpm
  · obtain ⟨hlast, hstop⟩ | ⟨hruns, hone⟩ := c.ms_tick h hs htick
    · refine .inl ⟨?_, hstop⟩
      rw [hlast]; omega
    · refine .inr ⟨hruns, ?_⟩
      rw [if_pos htick, ← hone, Nat.mul_succ]; omega
  · obtain ⟨hruns, hsame⟩ := c.no_tick hs htick
    refine .inr ⟨hruns, ?_⟩
    have hle : s.cfg.tpm ≤ s.cfg.tpm * ticks s := Nat.le_mul_of_pos_right _ (c.pos h hs)
    rw [if_neg htick, hsame]; omega

/-- A quiet operation that is no OVF leaves the OVFs left. -/
theorem MsCountdown.hold_left (c : MsCountdown stopped ticks quiet) {i : Instr} {s t : State}
    (hs : stopped s = false) (ht : exec i s = .next t) (hq : quiet i s) (hi : i ≠ .ovf) :
    stopped t = false ∧ ovfsLeft ticks t = ovfsLeft ticks s := by
  obtain ⟨hruns, hsame⟩ := c.hold hs ht hq hi
  obtain ⟨hpre, -⟩ := registerWriters i s t ht (c.no_reset hq)
  have hpre : t.preCnt = s.preCnt := by
    by_contra hne
    exact hi (hpre (.inl hne))
  exact ⟨hruns, by rw [ovfsLeft, ovfsLeft, exec_cfg ht, hpre, hsame]⟩

theorem MsCountdown.left_pos (c : MsCountdown stopped ticks quiet) {s : State} (h : BlockInv s)
    (hs : stopped s = false) : 1 ≤ ovfsLeft ticks s := by
  obtain ⟨hlast, -⟩ | ⟨-, hone⟩ := c.ovf h hs <;> omega

theorem MsCountdown.not_left_le_nil (c : MsCountdown stopped ticks quiet) {s : State} (h : BlockInv s)
    (hs : stopped s = false) : ¬ ovfsLeft ticks s ≤ ([] : List Instr).count .ovf :=
  Nat.not_le.mpr (c.left_pos h hs)

/-- One operation of a quiet run either stops the window, with the one OVF left, or leaves the rest of the
window to the rest of the run. -/
theorem MsCountdown.exec_cases (c : MsCountdown stopped ticks quiet) {i : Instr} {s t : State} (h : BlockInv s)
    (hs : stopped s = false) (ht : exec i s = .next t) (hq : quiet i s) (is : List Instr) :
    (stopped t = true ∧ ovfsLeft ticks s ≤ (i :: is).count .ovf) ∨
    (stopped t = false ∧ (ovfsLeft ticks s ≤ (i :: is).count .ovf ↔ ovfsLeft ticks t ≤ is.count .ovf)) := by
  by_cases hi : i = .ovf
  · subst hi
    obtain rfl : effect .ovf s = t := Host.Outcome.next.inj ht
    rw [List.count_cons_self]
    obtain ⟨hlast, hstop⟩ | ⟨hruns, hone⟩ := c.ovf h hs
    · exact .inl ⟨hstop, by omega⟩
    · exact .inr ⟨hruns, by omega⟩
  · obtain ⟨hruns, hsame⟩ := c.hold_left hs ht hq hi
    exact .inr ⟨hruns, by rw [hsame, List.count_cons_of_ne hi]⟩

/-- A window stops at some boundary of a quiet run iff the run holds the OVFs that are left. -/
theorem MsCountdown.stops_once_iff (c : MsCountdown stopped ticks quiet) (is : List Instr) {s : State}
    (h : BlockInv s) (hs : stopped s = false) (hq : Along quiet is s) :
    (∃ k u, runOps (is.take k) s = .next u ∧ stopped u = true) ↔ ovfsLeft ticks s ≤ is.count .ovf := by
  induction is generalizing s with
  | nil =>
    refine iff_of_false ?_ (c.not_left_le_nil h hs)
    rintro ⟨k, u, hu, hstop⟩
    rw [List.take_nil] at hu
    cases hu
    simp [hs] at hstop
  | cons i is ih =>
    obtain ⟨v, hv⟩ := exec_total i s
    obtain ⟨hqi, hqis⟩ := hq.cons hv
    obtain ⟨hstop, hle⟩ | ⟨hruns, hrest⟩ := c.exec_cases h hs hv hqi is
    · exact iff_of_true ⟨1, v, runOps_cons hv [], hstop⟩ hle
    · rw [hrest, ← ih (h.exec hv) hruns hqis]
      constructor
      · rintro ⟨k, u, hu, hstop⟩
        cases k with
        | zero => cases hu; simp [hs] at hstop
        | succ k => exact ⟨k, u, (runOps_cons hv _).symm.trans hu, hstop⟩
      · rintro ⟨k, u, hu, hstop⟩
        exact ⟨k + 1, u, (runOps_cons hv _).trans hu, hstop⟩

/-- A window that no `calm` operation starts again is stopped at the end of a quiet and calm run iff the run
holds the OVFs that are left. -/
theorem MsCountdown.stopped_at_end_iff (c : MsCountdown stopped ticks quiet) {calm : Instr → State → Prop}
    (hcalm : ∀ {i s t}, stopped s = true → exec i s = .next t → calm i s → stopped t = true)
    {is : List Instr} {s t : State} (h : BlockInv s) (hs : stopped s = false) (hq : Along quiet is s)
    (hc : Along calm is s) (ht : runOps is s = .next t) :
    stopped t = true ↔ ovfsLeft ticks s ≤ is.count .ovf := by
  have stays {is : List Instr} {s : State} (hs : stopped s = true) (hc : Along calm is s)
      (ht : runOps is s = .next t) : stopped t = true := by
    induction is generalizing s with
    | nil => cases ht; exact hs
    | cons i is ih =>
      obtain ⟨v, hv, hrun⟩ := runOps_cons_eq_next.mp ht
      obtain ⟨hci, hcis⟩ := hc.cons hv
      exact ih (hcalm hs hv hci) hcis hrun
  induction is generalizing s with
  | nil =>
    cases ht
    exact iff_of_false (by simp [hs]) (c.not_left_le_nil h hs)
  | cons i is ih =>
    obtain ⟨v, hv, hrun⟩ := runOps_cons_eq_next.mp ht
    obtain ⟨hqi, hqis⟩ := hq.cons hv
    obtain ⟨-, hcis⟩ := hc.cons hv
    obtain ⟨hstop, hle⟩ | ⟨hruns, hrest⟩ := c.exec_cases h hs hv hqi is
    · exact iff_of_true (stays hstop hcis hrun) hle
    · exact (ih (h.exec hv) hruns hqis hcis hrun).trans hrest.symm

end

/-! #### The three buttons -/

/-- What the three buttons have in common: a flag and a counter that are in step, the re-arm step of OVF,
and one operation that disarms an armed button and is ignored by a disarmed one (41_input_capture.md R110
to R115). -/
structure Button (armed : State → Bit) (deb : State → Nat) (press : Instr) : Prop where
  inv : ∀ {s}, BlockInv s → ButtonInv s.cfg (armed s) (deb s)
  tick : ∀ s, (armed (effect .ovf s), deb (effect .ovf s)) =
    if s.preCnt + 1 = s.cfg.tpm then debounceNext s.cfg (armed s) (deb s) else (armed s, deb s)
  bounce : ∀ {s t}, armed s = false → exec press s = .next t → armed t = false ∧ deb t = deb s
  other : ∀ {i s t}, exec i s = .next t → i ≠ .reset → i ≠ .ovf → i ≠ press →
    armed t = armed s ∧ deb t = deb s

theorem upButton : Button (·.upArmed) (·.debUp) .edgeUp where
  inv h := h.up
  tick := effect_ovf_up
  bounce {s t} hs ht := by
    obtain rfl : wake (captureUp s) = t := Host.Outcome.next.inj ht
    rw [captureUp_of_disarmed hs, wake_upArmed, wake_debUp]
    exact ⟨hs, rfl⟩
  other {i s t} ht hr ho hi := by
    obtain ⟨-, -, -, -, -, -, up, -⟩ := registerWriters i s t ht hr
    simpa only [not_or, not_not] using mt up (not_or.mpr ⟨ho, hi⟩)

theorem downButton : Button (·.downArmed) (·.debDown) .edgeDown where
  inv h := h.down
  tick := effect_ovf_down
  bounce {s t} hs ht := by
    obtain rfl : wake (captureDown s) = t := Host.Outcome.next.inj ht
    rw [captureDown_of_disarmed hs, wake_downArmed, wake_debDown]
    exact ⟨hs, rfl⟩
  other {i s t} ht hr ho hi := by
    obtain ⟨-, -, -, -, -, -, -, down, -⟩ := registerWriters i s t ht hr
    simpa only [not_or, not_not] using mt down (not_or.mpr ⟨ho, hi⟩)

/-- With no press POLL_TEST leaves the button's registers, at its place or refused. -/
theorem exec_pollTest_of_no_press {l : Bit} {s t : State} (hp : testPressed s l = false)
    (ht : exec (.pollTest l) s = .next t) : t.testArmed = s.testArmed ∧ t.debTest = s.debTest := by
  obtain ⟨-, rfl⟩ | ⟨-, -, rfl⟩ := exec_cases ht
  · rw [effect, pollTestBody_of_no_press hp]
    exact ⟨rfl, rfl⟩
  · exact ⟨rfl, rfl⟩

theorem testButton : Button (·.testArmed) (·.debTest) (.pollTest false) where
  inv h := h.test
  tick := effect_ovf_test
  bounce {s t} hs ht := by
    rw [← hs]
    exact exec_pollTest_of_no_press (by simp [testPressed, hs]) ht
  other {i s t} ht hr ho hi := by
    by_cases hpoll : ∃ l, i = .pollTest l
    · obtain ⟨l, rfl⟩ := hpoll
      obtain rfl : l = true := by simpa using hi
      exact exec_pollTest_of_no_press (by simp [testPressed]) ht
    · obtain ⟨-, -, -, -, -, -, -, -, test, -⟩ := registerWriters i s t ht hr
      simpa only [not_or, not_not] using mt test (not_or.mpr ⟨ho, hpoll⟩)

section
variable {armed : State → Bit} {deb : State → Nat} {press : Instr}

/-- The window of a disarmed button is a countdown that no operation but RESET disturbs. -/
theorem Button.countdown (b : Button armed deb press) :
    MsCountdown armed (fun s => s.cfg.debounceMs - deb s) (fun i _ => i ≠ .reset) where
  pos h _ := Nat.le_sub_of_add_le' (b.inv h).deb_lt
  ms_tick {s} h hs ht := by
    obtain ⟨-, -, -, -, -, -, -, -, -, -, -, -, -, hfits, -⟩ := admitted_iff.mp h.admitted
    have hlt := (b.inv h).deb_lt
    have hpair := b.tick s
    rw [if_pos ht, hs, debounceNext_disarmed, incr_of_lt (by omega)] at hpair
    rw [(effect_outcome .ovf s).1]
    split at hpair <;> obtain ⟨harmed, hdeb⟩ := Prod.mk.inj hpair
    · exact .inl ⟨by omega, harmed⟩
    · exact .inr ⟨harmed, by omega⟩
  no_tick {s} hs ht := by
    have hpair := b.tick s
    rw [if_neg ht] at hpair
    obtain ⟨harmed, hdeb⟩ := Prod.mk.inj hpair
    exact ⟨harmed.trans hs, by rw [hdeb, (effect_outcome .ovf s).1]⟩
  hold {i s t} hs ht hr ho := by
    by_cases hi : i = press
    · obtain ⟨harmed, hdeb⟩ := b.bounce hs (hi ▸ ht)
      exact ⟨harmed, by rw [hdeb, exec_cfg ht]⟩
    · obtain ⟨harmed, hdeb⟩ := b.other ht hr ho hi
      exact ⟨harmed.trans hs, by rw [hdeb, exec_cfg ht]⟩
  no_reset h := h

/-- An armed button stays armed under every operation but its own and RESET. -/
theorem Button.stays_armed (b : Button armed deb press) {i : Instr} {s t : State} (hs : armed s = true)
    (ht : exec i s = .next t) (hi : i ≠ .reset ∧ i ≠ press) : armed t = true := by
  by_cases ho : i = .ovf
  · subst ho
    obtain rfl : effect .ovf s = t := Host.Outcome.next.inj ht
    have hpair := b.tick s
    rw [hs, debounceNext_armed, ite_self] at hpair
    exact congrArg Prod.fst hpair
  · exact (b.other ht hi.1 ho hi.2).1.trans hs

/-- A disarmed button is armed again after exactly its window (41_input_capture.md R116). -/
theorem Button.rearm (b : Button armed deb press) {is : List Instr} {s t : State} (h : BlockInv s)
    (noReset : Instr.reset ∉ is) (ht : runOps is s = .next t) (hs : armed s = false) :
    ((∃ k u, runOps (is.take k) s = .next u ∧ armed u = true) ↔
      s.cfg.tpm * (s.cfg.debounceMs - deb s) - s.preCnt ≤ is.count .ovf) ∧
    (press ∉ is → (armed t = true ↔ s.cfg.tpm * (s.cfg.debounceMs - deb s) - s.preCnt ≤ is.count .ovf)) := by
  have quiet : Along (fun i _ => i ≠ .reset) is s :=
    along_of_forall s fun i hi _ hr => noReset (hr ▸ hi)
  refine ⟨b.countdown.stops_once_iff is h hs quiet, fun noPress => ?_⟩
  have calm : Along (fun i _ => i ≠ .reset ∧ i ≠ press) is s :=
    along_of_forall s fun i hi _ => ⟨fun hr => noReset (hr ▸ hi), fun hp => noPress (hp ▸ hi)⟩
  exact b.countdown.stopped_at_end_iff b.stays_armed h hs quiet calm ht

end

/-! #### The display -/

/-- The ms ticks before the display goes off (43_display_timeout.md R131, R133). -/
def displayTicks (s : State) : Nat := (s.cfg.dispPeriods - s.dispSec) * s.cfg.displayMs - s.dispCnt

/-- An operation that is neither OVF nor RESET and serves no button event leaves the display registers. -/
theorem display_of_not_serving {i : Instr} {s t : State} (ht : exec i s = .next t) (hr : i ≠ .reset)
    (hq : ¬ ServesButton i s) (ho : i ≠ .ovf) :
    t.dispOn = s.dispOn ∧ t.dispCnt = s.dispCnt ∧ t.dispSec = s.dispSec := by
  obtain ⟨enabled, rfl⟩ | ⟨-, -, rfl⟩ := exec_cases ht
  · cases i with
    | svcUp =>
      have noEvent : s.upEvt = false := by simpa [ServesButton, enabled _ rfl] using hq
      rw [effect, svcUpBody_of_no_event noEvent]
      exact ⟨rfl, rfl, rfl⟩
    | svcDown =>
      have noEvent : s.downEvt = false := by simpa [ServesButton, enabled _ rfl] using hq
      rw [effect, svcDownBody_of_no_event noEvent]
      exact ⟨rfl, rfl, rfl⟩
    | svcTest =>
      have noEvent : s.testEvt = false := by simpa [ServesButton, enabled _ rfl] using hq
      rw [effect, svcTestBody_of_no_event noEvent]
      exact ⟨rfl, rfl, rfl⟩
    | ovf => exact absurd rfl ho
    | _ =>
      obtain ⟨-, -, display, -⟩ := registerWriters _ s _ ht hr
      simpa only [not_or, not_not] using mt display (by simp)
  · exact ⟨rfl, rfl, rfl⟩

theorem display_countdown :
    MsCountdown (fun s => !s.dispOn) displayTicks (fun i s => i ≠ .reset ∧ ¬ ServesButton i s) where
  pos {s} h _ := by
    have hcnt := h.disp_cnt_lt
    have hle : s.cfg.displayMs ≤ (s.cfg.dispPeriods - s.dispSec) * s.cfg.displayMs :=
      Nat.le_mul_of_pos_left _ (Nat.sub_pos_of_lt h.disp_sec_lt)
    unfold displayTicks; omega
  ms_tick {s} h hs ht := by
    obtain ⟨-, -, -, -, -, -, -, -, -, -, -, -, -, -, hdispW, hdsecW, -⟩ := admitted_iff.mp h.admitted
    have hcnt := h.disp_cnt_lt
    have hsec := h.disp_sec_lt
    have on : s.dispOn = true := by simpa using hs
    obtain ⟨rest, hrest⟩ : ∃ rest, s.cfg.dispPeriods - s.dispSec = rest + 1 :=
      ⟨s.cfg.dispPeriods - s.dispSec - 1, by omega⟩
    have htriple := effect_ovf_display s
    rw [if_pos ht, displayNext, if_pos on, incr_of_lt (by omega), incr_of_lt (by omega)] at htriple
    unfold displayTicks
    rw [(effect_outcome .ovf s).1, hrest, Nat.succ_mul]
    split_ifs at htriple <;> obtain ⟨hon, hpair⟩ := Prod.mk.inj htriple <;>
      obtain ⟨hcnt', hsec'⟩ := Prod.mk.inj hpair <;> rw [hon, hcnt', hsec']
    · obtain rfl : rest = 0 := by omega
      exact .inl ⟨by omega, rfl⟩
    · have hrest' : s.cfg.dispPeriods - (s.dispSec + 1) = rest := by omega
      refine .inr ⟨rfl, ?_⟩
      rw [hrest']; omega
    · refine .inr ⟨rfl, ?_⟩
      rw [hrest, Nat.succ_mul]; omega
  no_tick {s} hs ht := by
    have htriple := effect_ovf_display s
    rw [if_neg ht] at htriple
    obtain ⟨hon, hpair⟩ := Prod.mk.inj htriple
    obtain ⟨hcnt, hsec⟩ := Prod.mk.inj hpair
    simp only [displayTicks, hon, hcnt, hsec, (effect_outcome .ovf s).1, hs, and_self]
  hold hs ht hq ho := by
    obtain ⟨hon, hcnt, hsec⟩ := display_of_not_serving ht hq.1 hq.2 ho
    simp only [displayTicks, hon, hcnt, hsec, exec_cfg ht, hs, and_self]
  no_reset h := h.1

/-- A display that is off stays off while no button event is served. -/
theorem display_stays_off {i : Instr} {s t : State} (hs : (!s.dispOn) = true) (ht : exec i s = .next t)
    (hq : i ≠ .reset ∧ ¬ ServesButton i s) : (!t.dispOn) = true := by
  by_cases ho : i = .ovf
  · subst ho
    obtain rfl : effect .ovf s = t := Host.Outcome.next.inj ht
    have off : s.dispOn = false := by simpa using hs
    have htriple := effect_ovf_display s
    rw [off, displayNext_off, ite_self] at htriple
    rw [(Prod.mk.inj htriple).1]
    rfl
  · rw [(display_of_not_serving ht hq.1 hq.2 ho).1, hs]

end Sys2Proof.Machine

namespace Sys2Proof
open Machine

/-- Settles O23: each of the three buttons is a countdown in ms ticks. -/
theorem rearmAfterExactlyTheWindow : Obligations.RearmAfterExactlyTheWindow := by
  intro is s h noReset
  obtain ⟨t, ht⟩ := runOps_total is s
  exact ⟨t, ht, upButton.rearm h noReset ht, downButton.rearm h noReset ht, testButton.rearm h noReset ht⟩

/-- Settles O24: the display is a countdown in ms ticks, which only RESET and a served button event
disturb. -/
theorem blankAfterExactlyTheWindow : Obligations.BlankAfterExactlyTheWindow := by
  intro is s h on noReset noService
  obtain ⟨t, ht⟩ := runOps_total is s
  have quiet : Along (fun i s => i ≠ .reset ∧ ¬ ServesButton i s) is s := fun k i u hi hu =>
    ⟨fun hr => noReset (hr ▸ List.mem_of_getElem? hi), noService k i u hi hu⟩
  have ends := display_countdown.stopped_at_end_iff display_stays_off h (by simp [on]) quiet quiet ht
  rw [Bool.not_eq_true'] at ends
  exact ⟨t, ht, ends⟩

end Sys2Proof

/-! ### One iteration of the main loop (46_main_loop.md R170, 30_encoding.md R75) -/

namespace Sys2Proof.Machine

theorem runOps_append {is : List Instr} {s u : State} (h : runOps is s = .next u) (js : List Instr) :
    runOps (is ++ js) s = runOps js u := by
  induction is generalizing s with
  | nil => cases h; rfl
  | cons i is ih =>
    obtain ⟨v, hv, hrest⟩ := runOps_cons_eq_next.mp h
    rw [List.cons_append, runOps_cons hv, ih hrest]

/-- The six operations of an iteration after SVC_ALARM, one after another. -/
def services (l : Bit) (s : State) : State :=
  idleBody (renderBody (svcTestBody (pollTestBody l (svcDownBody (svcUpBody s)))))

/-- From S_ALARM the seven micro-operations of an iteration are in sequence. -/
theorem runOps_iter {s : State} (l : Bit) (h : s.ctrlPc = .sAlarm) :
    runOps (iter l) s = .next (services l (svcAlarmBody s)) := by
  rw [iter, runOps_cons (exec_svcAlarm_home h), runOps_cons (exec_svcUp_home rfl),
    runOps_cons (exec_svcDown_home rfl), runOps_cons (exec_pollTest_home l rfl),
    runOps_cons (exec_svcTest_home rfl), runOps_cons (exec_render_home rfl),
    runOps_cons (exec_idle_home rfl), runOps, services]

/-- `t` differs from `s` only in what the six operations after SVC_ALARM write: the button events, the level,
the display, the test button and test mode, the step interval with its pending restart, and `ctrl_pc`. -/
def ServicesFrame (s t : State) : Prop :=
  t = { s with
    upEvt := t.upEvt, downEvt := t.downEvt, testEvt := t.testEvt, level := t.level
    dispOn := t.dispOn, dispCnt := t.dispCnt, dispSec := t.dispSec
    testArmed := t.testArmed, debTest := t.debTest, testPrev := t.testPrev, testMode := t.testMode
    stepIv := t.stepIv, crp := t.crp, segQ := t.segQ, renderErr := t.renderErr, report := t.report
    ctrlPc := t.ctrlPc }

theorem ServicesFrame.trans {s t u : State} (h₁ : ServicesFrame s t) (h₂ : ServicesFrame t u) :
    ServicesFrame s u := by
  unfold ServicesFrame at *
  rw [h₂, h₁]

theorem services_frame (l : Bit) (s : State) : ServicesFrame s (services l s) := by
  have up (s : State) : ServicesFrame s (svcUpBody s) := by rw [ServicesFrame, svcUpBody_frame]
  have down (s : State) : ServicesFrame s (svcDownBody s) := by rw [ServicesFrame, svcDownBody_frame]
  have poll (s : State) : ServicesFrame s (pollTestBody l s) := by rw [ServicesFrame, pollTestBody_frame]
  have test (s : State) : ServicesFrame s (svcTestBody s) := by rw [ServicesFrame, svcTestBody_frame]
  have render (s : State) : ServicesFrame s (renderBody s) := by rw [ServicesFrame, renderBody_frame]
  have idle (s : State) : ServicesFrame s (idleBody s) := rfl
  exact (up s).trans ((down _).trans ((poll _).trans ((test _).trans ((render _).trans (idle _)))))

/-- What the six operations keep of the cycle and the counters. -/
theorem services_keeps (l : Bit) (s : State) :
    (services l s).cycCnt = s.cycCnt ∧ (services l s).preCnt = s.preCnt ∧ (services l s).debUp = s.debUp ∧
    (services l s).debDown = s.debDown ∧ (services l s).refused = s.refused ∧ (services l s).alarm = s.alarm ∧
    (services l s).phase = s.phase ∧ (services l s).stepsRem = s.stepsRem ∧ (services l s).spc = s.spc ∧
    (services l s).dirQ = s.dirQ ∧ (services l s).busyQ = s.busyQ ∧ (services l s).outLog = s.outLog := by
  have frame : services l s = _ := services_frame l s
  rw [frame]; simp

/-! What each of the six does to the events, to the test button and to the display. -/

/-- The display registers. -/
def display (s : State) : Bit × Nat × Nat := (s.dispOn, s.dispCnt, s.dispSec)

/-- The display registers after a service that consumes its event or not (43_display_timeout.md R132). -/
def restartIf (served : Bit) (d : Bit × Nat × Nat) : Bit × Nat × Nat := if served then (true, 0, 0) else d

@[simp] theorem restartIf_restartIf (a b : Bit) (d : Bit × Nat × Nat) :
    restartIf b (restartIf a d) = restartIf (a || b) d := by
  cases a <;> cases b <;> rfl

@[simp] theorem svcUpBody_display (s : State) : display (svcUpBody s) = restartIf s.upEvt (display s) := by
  obtain event | event := Bool.eq_false_or_eq_true s.upEvt
  · rw [svcUpBody_of_event event, event]; rfl
  · rw [svcUpBody_of_no_event event, event]; rfl

@[simp] theorem svcDownBody_display (s : State) :
    display (svcDownBody s) = restartIf s.downEvt (display s) := by
  obtain event | event := Bool.eq_false_or_eq_true s.downEvt
  · rw [svcDownBody_of_event event, event]; rfl
  · rw [svcDownBody_of_no_event event, event]; rfl

@[simp] theorem svcTestBody_display (s : State) :
    display (svcTestBody s) = restartIf s.testEvt (display s) := by
  obtain event | event := Bool.eq_false_or_eq_true s.testEvt
  · obtain mode | mode := Bool.eq_false_or_eq_true s.testMode
    · rw [svcTestBody_leave event mode, event]; rfl
    · rw [svcTestBody_enter event mode, event]; rfl
  · rw [svcTestBody_of_no_event event, event]; rfl

@[simp] theorem svcUpBody_buttons (s : State) :
    (svcUpBody s).upEvt = false ∧ (svcUpBody s).downEvt = s.downEvt ∧ (svcUpBody s).testEvt = s.testEvt ∧
    (svcUpBody s).testPrev = s.testPrev ∧ (svcUpBody s).testArmed = s.testArmed ∧
    (svcUpBody s).debTest = s.debTest ∧ (svcUpBody s).crp = s.crp := by
  rw [svcUpBody_frame]; simp

@[simp] theorem svcDownBody_buttons (s : State) :
    (svcDownBody s).upEvt = s.upEvt ∧ (svcDownBody s).downEvt = false ∧
    (svcDownBody s).testEvt = s.testEvt ∧ (svcDownBody s).testPrev = s.testPrev ∧
    (svcDownBody s).testArmed = s.testArmed ∧ (svcDownBody s).debTest = s.debTest ∧
    (svcDownBody s).crp = s.crp := by
  rw [svcDownBody_frame]; simp

@[simp] theorem pollTestBody_buttons (l : Bit) (s : State) :
    (pollTestBody l s).upEvt = s.upEvt ∧ (pollTestBody l s).downEvt = s.downEvt ∧
    (pollTestBody l s).testEvt = (s.testEvt || testPressed s l) ∧ (pollTestBody l s).testPrev = l ∧
    (pollTestBody l s).debTest = (if testPressed s l then 0 else s.debTest) ∧
    (pollTestBody l s).crp = s.crp ∧ display (pollTestBody l s) = display s := by
  obtain press | press := Bool.eq_false_or_eq_true (testPressed s l)
  · rw [pollTestBody_of_press press]; simp [press, display]
  · rw [pollTestBody_of_no_press press]; simp [press, display]

@[simp] theorem svcTestBody_buttons (s : State) :
    (svcTestBody s).upEvt = s.upEvt ∧ (svcTestBody s).downEvt = s.downEvt ∧ (svcTestBody s).testEvt = false ∧
    (svcTestBody s).testPrev = s.testPrev ∧ (svcTestBody s).debTest = s.debTest := by
  rw [svcTestBody_frame]; simp

@[simp] theorem renderBody_buttons (s : State) :
    (renderBody s).alarm = s.alarm ∧ (renderBody s).upEvt = s.upEvt ∧ (renderBody s).downEvt = s.downEvt ∧
    (renderBody s).testEvt = s.testEvt ∧ (renderBody s).testPrev = s.testPrev ∧
    (renderBody s).debTest = s.debTest ∧ (renderBody s).crp = s.crp ∧ display (renderBody s) = display s := by
  rw [display, renderBody_frame]; simp [display]

/-- The six operations leave no button event pending. -/
theorem services_events (l : Bit) (s : State) :
    (services l s).upEvt = false ∧ (services l s).downEvt = false ∧ (services l s).testEvt = false := by
  simp [services, idleBody]

/-- The six operations keep the level polled, and a press starts the window of the test button. -/
theorem services_test (l : Bit) (s : State) :
    (services l s).testPrev = l ∧ (services l s).debTest = if testPressed s l then 0 else s.debTest := by
  simp [services, idleBody, testPressed]

/-- The display window restarts iff one of the six operations consumes an event. -/
theorem services_display (l : Bit) (s : State) : display (services l s) =
    restartIf (s.upEvt || s.downEvt || s.testEvt || testPressed s l) (display s) := by
  have idle (s : State) : display (idleBody s) = display s := rfl
  simp [services, idle, testPressed, Bool.or_assoc]

/-- With no button event left, IDLE goes by the alarm alone (46_main_loop.md R172). -/
theorem services_ctrlPc (l : Bit) (s : State) :
    (services l s).ctrlPc = if s.alarm = true then .sAlarm else .sWait := by
  obtain ⟨-, -, -, -, -, halarm, -⟩ := services_keeps l s
  rw [← halarm]
  simp [services, idleBody, anyPending]

/-- With no test event the six operations leave CycleResetPending. -/
theorem services_crp {l : Bit} {s : State} (he : s.testEvt = false) (hp : testPressed s l = false) :
    (services l s).crp = s.crp := by
  have noEvent : (pollTestBody l (svcDownBody (svcUpBody s))).testEvt = false := by
    have hp' : testPressed (svcDownBody (svcUpBody s)) l = false := by simpa [testPressed] using hp
    simp [he, hp']
  simp [services, idleBody, svcTestBody_of_no_event noEvent]

/-- SVC_ALARM writes the cycle's registers only. -/
theorem svcAlarmBody_keeps (s : State) :
    (svcAlarmBody s).cycCnt = s.cycCnt ∧ (svcAlarmBody s).preCnt = s.preCnt ∧
    (svcAlarmBody s).debUp = s.debUp ∧ (svcAlarmBody s).debDown = s.debDown ∧
    (svcAlarmBody s).refused = s.refused ∧ (svcAlarmBody s).upEvt = s.upEvt ∧
    (svcAlarmBody s).downEvt = s.downEvt ∧ (svcAlarmBody s).testEvt = s.testEvt ∧
    (svcAlarmBody s).debTest = s.debTest ∧ (∀ l, testPressed (svcAlarmBody s) l = testPressed s l) ∧
    display (svcAlarmBody s) = display s := by
  obtain ⟨-, h⟩ | ⟨-, -, -, h⟩ | ⟨-, -, -, h⟩ | ⟨-, -, h⟩ := svcAlarmBody_cases s <;> rw [h] <;>
    exact ⟨rfl, rfl, rfl, rfl, rfl, rfl, rfl, rfl, rfl, fun _ => rfl, rfl⟩

/-- With the test button released, an iteration from the last alarm of an Active phase ends the phase, and its
CycleResetPending becomes an alarm, so the sequencer does not wait (44_cycle_fsm.md R143, R156). -/
theorem iter_ends_active {s : State} (home : s.ctrlPc = .sAlarm) (alarm : s.alarm = true)
    (active : s.phase = .active) (noSteps : s.stepsRem = 0) (pending : s.crp = true)
    (noTest : s.testEvt = false) :
    ∃ u, runOps (iter true) s = .next u ∧ u.ctrlPc = .sAlarm ∧ u.alarm = true ∧ u.phase = .pause ∧
      u.testEvt = false ∧ u.crp = false ∧ u.dirQ = s.dirQ ∧ u.cycCnt = s.cycCnt ∧ u.outLog = s.outLog := by
  refine ⟨_, runOps_iter true home, ?_⟩
  rw [svcAlarmBody_endOfActive alarm active noSteps]
  simp [services_keeps, services_ctrlPc, services_events, services_crp, testPressed, pending, noTest]

/-- With the test button released, an iteration from an alarm in Pause starts an Active phase
(44_cycle_fsm.md R144). -/
theorem iter_starts_active {s : State} (home : s.ctrlPc = .sAlarm) (alarm : s.alarm = true)
    (paused : s.phase = .pause) (noTest : s.testEvt = false) :
    ∃ t, runOps (iter true) s = .next t ∧ t.phase = .active ∧ t.alarm = false ∧ t.crp = s.crp ∧
      t.dirQ = (!s.dirQ) ∧ t.busyQ = true ∧ t.stepsRem = t.spc ∧ t.cycCnt = s.cycCnt ∧
      t.outLog = s.outLog := by
  refine ⟨_, runOps_iter true home, ?_⟩
  rw [svcAlarmBody_start alarm paused]
  simp [services_keeps, services_crp, testPressed, startActive, noTest]

end Sys2Proof.Machine

namespace Sys2Proof
open Machine

/-- Settles O50: the iteration is SVC_ALARM, which writes the cycle's registers only, and the six operations
after it, which leave no button event for IDLE. -/
theorem iterationServesEveryEvent : Obligations.IterationServesEveryEvent := by
  intro s l home
  obtain ⟨hcyc, hpre, hdebUp, hdebDown, hrefused, hup, hdown, htest, hdebTest, hpress, hdisp⟩ :=
    svcAlarmBody_keeps s
  obtain ⟨hcyc', hpre', hdebUp', hdebDown', hrefused', halarm', -⟩ := services_keeps l (svcAlarmBody s)
  obtain ⟨noUp, noDown, noTest⟩ := services_events l (svcAlarmBody s)
  obtain ⟨hprev, hdebTest'⟩ := services_test l (svcAlarmBody s)
  have hdisp' := services_display l (svcAlarmBody s)
  rw [hup, hdown, htest, hpress, hdisp] at hdisp'
  refine ⟨_, runOps_iter l home, hrefused'.trans hrefused, noUp, noDown, noTest, ?_, hcyc'.trans hcyc,
    hpre'.trans hpre, hprev, hdebUp'.trans hdebUp, hdebDown'.trans hdebDown, ?_, hdisp'⟩
  · rw [halarm', services_ctrlPc]
  · rw [hdebTest', hpress, hdebTest]; rfl

/-- Settles O37: the first iteration ends the Active phase without a wait, and the second starts the next. -/
theorem cycleResetSkipsThePause : Obligations.CycleResetSkipsThePause := by
  intro s home alarm active noSteps pending noTest
  obtain ⟨u, hrun, home', alarm', paused, noTest', hcrp, hdir, hcyc, hlog⟩ :=
    iter_ends_active home alarm active noSteps pending noTest
  obtain ⟨t, hrun', hphase, halarm, hcrp', hdir', hbusy, hrem, hcyc', hlog'⟩ :=
    iter_starts_active home' alarm' paused noTest'
  exact ⟨t, (runOps_append hrun _).trans hrun', hphase, hcrp'.trans hcrp, halarm, by rw [hdir', hdir], hbusy, hrem,
    hcyc'.trans hcyc, hlog'.trans hlog⟩

end Sys2Proof
